-- ==== Sys2Proof/Word.lean ====
section
/-! DEFINITION. The values the core's registers and ports hold (spec/30_encoding.md section 1, spec/10_state.md). A
sample is an unsigned integer that the Demodulator compares exactly (R12, R83), so it is a Nat, below
`2 ^ SAMPLE_BITS` in the register and on the port. -/

namespace Sys2Proof

/-- An 8-bit register or port value. -/
abbrev Byte := BitVec 8

/-- The 16 bits of one frame on the wire (R72). -/
abbrev Frame := BitVec 16

/-- The decoded value of one receiver tick: `true` is HIGH (1) and `false` is LOW (0) (R70). -/
abbrev Symbol := Bool

/-- The level of the line: `true` is the on or high level (1), `false` the off, idle or low level (0) (R70). -/
abbrev Level := Bool

/-- The symbol and line value 1 (R14, R70). -/
abbrev HIGH : Symbol := true

/-- The symbol and line value 0 (R14, R70). -/
abbrev LOW : Symbol := false

/-- Which sub-block consumes the next receiver tick: the values of `rx_mode` (R24). -/
inductive RxMode where
  /-- 0: the Preamble Scanner. -/
  | scan
  /-- 1: the Byte Framer. -/
  | frame
deriving DecidableEq, Repr, Inhabited

/-- The values of `tx_state` (R30). -/
inductive TxState where
  /-- `0b00`: no frame in progress. -/
  | idle
  /-- `0b01`: a frame is captured, its first bit goes out at the next transmitter tick. -/
  | armed
  /-- `0b10`: frame bits are going out. -/
  | send
  /-- `0b11`: the reserved value, which no operation enters. -/
  | reserved
deriving DecidableEq, Repr, Inhabited

end Sys2Proof
end

