-- ==== Sys2Proof/Config.lean ====
section
/-! DEFINITION. The fixed constants, the build-time parameters, the input ports, and the values the spec leaves
open (spec/00_scope.md section 4, spec/30_encoding.md section 2). -/

namespace Sys2Proof

/-- Which paths an instance holds: `INCLUDE_RX` and `INCLUDE_TX`, not both false (R4, R9, D29). -/
inductive Paths where
  | both
  | rxOnly
  | txOnly
deriving DecidableEq, Repr, Inhabited

/-- `INCLUDE_RX` (R9). -/
def Paths.includeRx : Paths → Bool
  | .both => true
  | .rxOnly => true
  | .txOnly => false

/-- `INCLUDE_TX` (R9). -/
def Paths.includeTx : Paths → Bool
  | .both => true
  | .rxOnly => false
  | .txOnly => true

/-- The parameters of R9, fixed when the core is built. -/
structure Build where
  /-- `SAMPLE_BITS`: the width of `sample_in` and of `prev_sample`. -/
  sampleBits : Nat
  /-- `THRESHOLD`: the signal delta required to register a level change. -/
  threshold : Nat
  /-- `PULSE_WIDTH`: the time between two ticks of one path, in a unit of the platform's; no rule depends on it. -/
  pulseWidth : Nat
  /-- `INCLUDE_RX`, `INCLUDE_TX`. -/
  paths : Paths
deriving DecidableEq, Repr, Inhabited

/-- The input ports of one clock cycle but `clk` (R74). -/
structure Inputs where
  rst : Bool
  rxTick : Bool
  /-- What the environment presents at `sample_in`; the port carries its low `SAMPLE_BITS` bits. -/
  sampleIn : Nat
  txTick : Bool
  txStart : Bool
  txData : Byte
deriving DecidableEq, Repr, Inhabited

/-- A cycle with no input active: the item `NOP` of R84. -/
def Inputs.nop : Inputs :=
  { rst := false, rxTick := false, sampleIn := 0, txTick := false, txStart := false, txData := 0 }

namespace Config

/-- The constant `PREAMBLE` = 178 = `0xB2` = `10110010` (R71). -/
def preamble : Byte := 0xB2#8

/-- `SAMPLE_BITS` of the built instance, less one (open: D3). -/
opaque extraSampleBits : Nat

/-- `THRESHOLD` of the built instance, one of 0 to `2 ^ SAMPLE_BITS - 1` (open: D4). -/
opaque thresholdBits : BitVec (extraSampleBits + 1)

/-- `PULSE_WIDTH` of the built instance, less one unit (open: D2). -/
opaque extraPulseWidth : Nat

/-- `INCLUDE_RX`, `INCLUDE_TX` of the built instance (open: D29). -/
opaque paths : Paths

/-- The parameters the instance was built with: some legal parameters, which nothing in Lean can tell. -/
def build : Build :=
  { sampleBits := extraSampleBits + 1
    threshold := thresholdBits.toNat
    pulseWidth := extraPulseWidth + 1
    paths := paths }

/-- The inputs the environment chooses for a cycle that no stimulus has been given for (R217): free. -/
opaque environment : Nat → Inputs

/-- The line level TX_BIT would drive with `tx_index` above 15, where R165 gives it no operand: free. -/
opaque absentFrameBit : Frame → BitVec 5 → Level

/-- `TUNED_INIT` of the Channel Controller, less one (open: D31, 1 to 9). -/
opaque tunedInitLessOne : Fin 9

/-- `LAST_INIT` of the Channel Controller (open: D31, 0 to 255). -/
opaque lastInit : Byte

end Config

end Sys2Proof
end

