-- ==== Sys2Proof/Syntax.lean ====
section
/-! DEFINITION. The operations of the core: one constructor for each row of spec/opcode_table.json. -/

namespace Sys2Proof

/-- What one path, or the Demodulator inside a receiver tick, does in one cycle (R2). An operand is the value of
the input port that the operation's rule names as read: `in(sample_in)` or `in(tx_data)`. -/
inductive Instr where
  /-- RX_RESET (R230). -/
  | rxReset
  /-- RX_WAIT (R106). -/
  | rxWait
  /-- RX_SCAN_TICK (R120). -/
  | rxScanTick (sample : Nat)
  /-- RX_FRAME_TICK (R140). -/
  | rxFrameTick (sample : Nat)
  /-- RX_FRAME_LAST (R141). -/
  | rxFrameLast (sample : Nat)
  /-- TX_RESET (R231). -/
  | txReset
  /-- TX_IDLE (R160). -/
  | txIdle
  /-- TX_CAPTURE (R161). -/
  | txCapture (data : Byte)
  /-- TX_ARMED_WAIT (R162). -/
  | txArmedWait
  /-- TX_FIRST_BIT (R163). -/
  | txFirstBit
  /-- TX_SEND_WAIT (R164). -/
  | txSendWait
  /-- TX_BIT (R165). -/
  | txBit
  /-- TX_END (R166). -/
  | txEnd
  /-- TX_RECOVER (R167). -/
  | txRecover
  /-- DEMOD_FROM_HIGH (R100). -/
  | demodFromHigh (sample : Nat)
  /-- DEMOD_FROM_LOW (R101). -/
  | demodFromLow (sample : Nat)
deriving DecidableEq, Repr

end Sys2Proof
end

