-- ==== Sys2Proof/WellFormed.lean ====
section
/-! DEFINITION. What a legal build, a legal set of inputs and a legal operation are (R9, R74, R83). -/

namespace Sys2Proof

/-- A sample that a port of `n` bits can carry: 0 to `2 ^ n - 1` (R83). -/
def sampleInRange (n : Nat) (x : Nat) : Bool := decide (x < 2 ^ n)

/-- The legal values of the parameters (R9). That the paths are not both absent is in the type `Paths`. -/
def Build.wellFormed (b : Build) : Bool :=
  decide (1 ≤ b.sampleBits) && sampleInRange b.sampleBits b.threshold && decide (1 ≤ b.pulseWidth)

/-- Inputs that the ports of build `b` carry unchanged (R74, R83). Every `tx_data` is a legal payload. -/
def Inputs.wellFormed (b : Build) (i : Inputs) : Bool := sampleInRange b.sampleBits i.sampleIn

/-- An operation whose sample operand is a value of the port `sample_in` of build `b` (R83). -/
def Instr.wellFormed (b : Build) : Instr → Bool
  | .rxReset => true
  | .rxWait => true
  | .rxScanTick x => sampleInRange b.sampleBits x
  | .rxFrameTick x => sampleInRange b.sampleBits x
  | .rxFrameLast x => sampleInRange b.sampleBits x
  | .txReset => true
  | .txIdle => true
  | .txCapture _ => true
  | .txArmedWait => true
  | .txFirstBit => true
  | .txSendWait => true
  | .txBit => true
  | .txEnd => true
  | .txRecover => true
  | .demodFromHigh x => sampleInRange b.sampleBits x
  | .demodFromLow x => sampleInRange b.sampleBits x

end Sys2Proof
end

