-- ==== Sys2Proof/Decode.lean ====
section
/-! DEFINITION. The decode of the three selectors, of an operation written as numbers, and of the stimulus word,
each with its encoder (spec/30_encoding.md sections 3 and 4, spec/opcode_table.json). -/

namespace Sys2Proof

/-- The bit of `rx_mode` (R24). -/
def rxModeBit : RxMode → BitVec 1
  | .scan => 0b0#1
  | .frame => 0b1#1

/-- The bits of `tx_state` (R30). -/
def txStateBits : TxState → BitVec 2
  | .idle => 0b00#2
  | .armed => 0b01#2
  | .send => 0b10#2
  | .reserved => 0b11#2

/-- The `rx_mode` with that bit (R24). -/
def rxModeOfBit : Bool → RxMode
  | false => .scan
  | true => .frame

/-- The `tx_state` with those two bits, the upper one first (R30). -/
def txStateOfBits : Bool → Bool → TxState
  | false, false => .idle
  | false, true => .armed
  | true, false => .send
  | true, true => .reserved

/-- The receiver's selector RXSEL, bit 3 first (R77). -/
def rxselWord (rst rxTick : Bool) (mode : RxMode) (rxLast : Bool) : BitVec 4 :=
  BitVec.ofBool rst ++ BitVec.ofBool rxTick ++ rxModeBit mode ++ BitVec.ofBool rxLast

/-- The transmitter's selector TXSEL, bit 5 first (R78). -/
def txselWord (rst txTick txStart : Bool) (state : TxState) (txLast : Bool) : BitVec 6 :=
  BitVec.ofBool rst ++ BitVec.ofBool txTick ++ BitVec.ofBool txStart ++ txStateBits state ++ BitVec.ofBool txLast

/-- The Demodulator's selector DMSEL (R79). -/
def dmselWord (prevSymbol : Symbol) : BitVec 1 := BitVec.ofBool prevSymbol

/-- The operation a value of RXSEL selects, with the sample that a receiver tick reads (R77). -/
def decodeRxsel (sel : BitVec 4) (sample : Nat) : Instr :=
  match sel.getLsbD 3, sel.getLsbD 2, sel.getLsbD 1, sel.getLsbD 0 with
  | true,  _,     _,     _     => .rxReset
  | false, false, _,     _     => .rxWait
  | false, true,  false, _     => .rxScanTick sample
  | false, true,  true,  false => .rxFrameTick sample
  | false, true,  true,  true  => .rxFrameLast sample

/-- The operation a value of TXSEL selects, with the byte that a capture reads (R78). -/
def decodeTxsel (sel : BitVec 6) (data : Byte) : Instr :=
  match sel.getLsbD 5, sel.getLsbD 4, sel.getLsbD 3, sel.getLsbD 2, sel.getLsbD 1, sel.getLsbD 0 with
  | true,  _,     _,     _,     _,     _     => .txReset
  | false, _,     false, false, false, _     => .txIdle
  | false, _,     true,  false, false, _     => .txCapture data
  | false, false, _,     false, true,  _     => .txArmedWait
  | false, true,  _,     false, true,  _     => .txFirstBit
  | false, false, _,     true,  false, _     => .txSendWait
  | false, true,  _,     true,  false, false => .txBit
  | false, true,  _,     true,  false, true  => .txEnd
  | false, _,     _,     true,  true,  _     => .txRecover

/-- The decision a value of DMSEL selects, with the sample it reads (R79). -/
def decodeDmsel (sel : BitVec 1) (sample : Nat) : Instr :=
  match sel.getLsbD 0 with
  | true => .demodFromHigh sample
  | false => .demodFromLow sample

/-- Which selector a row of spec/opcode_table.json belongs to: its "format". -/
inductive Format where
  | rxsel
  | txsel
  | dmsel
deriving DecidableEq, Repr

/-- The number of bits of a selector (R77, R78, R79). -/
def formatWidth : Format → Nat
  | .rxsel => 4
  | .txsel => 6
  | .dmsel => 1

/-- An operation written as numbers: the selector, its value, and the value of the port that the operation reads
(0 where it reads none). -/
structure Encoded where
  format : Format
  word : Nat
  operand : Nat
deriving DecidableEq, Repr

/-- Why numbers are no operation or no stimulus word. Every number that fits is one (R80, R83). -/
inductive Reject where
  /-- The selector's value has more bits than the selector. Safe: nothing runs. -/
  | selectorTooWide
  /-- The sample has more than `SAMPLE_BITS` bits. Safe: nothing runs. -/
  | sampleTooWide
  /-- The payload has more than 8 bits. Safe: nothing runs. -/
  | payloadTooWide
  /-- The stimulus word has more than `SAMPLE_BITS` + 12 bits. Safe: nothing runs. -/
  | stimulusTooWide
deriving DecidableEq, Repr

/-- The operation that numbers stand for, for a core whose samples have `n` bits (R77 to R80). -/
def decode (n : Nat) (e : Encoded) : Except Reject Instr :=
  if 2 ^ formatWidth e.format ≤ e.word then .error .selectorTooWide
  else
    match e.format with
    | .rxsel =>
      if e.operand < 2 ^ n then .ok (decodeRxsel (BitVec.ofNat 4 e.word) e.operand) else .error .sampleTooWide
    | .txsel =>
      if e.operand < 2 ^ 8 then .ok (decodeTxsel (BitVec.ofNat 6 e.word) (BitVec.ofNat 8 e.operand))
      else .error .payloadTooWide
    | .dmsel =>
      if e.operand < 2 ^ n then .ok (decodeDmsel (BitVec.ofNat 1 e.word) e.operand) else .error .sampleTooWide

/-- The numbers of an operation: its selector's bits as R77 to R79 print them, each `x` written as 0. -/
def encode : Instr → Encoded
  | .rxReset => ⟨.rxsel, 0b1000, 0⟩
  | .rxWait => ⟨.rxsel, 0b0000, 0⟩
  | .rxScanTick x => ⟨.rxsel, 0b0100, x⟩
  | .rxFrameTick x => ⟨.rxsel, 0b0110, x⟩
  | .rxFrameLast x => ⟨.rxsel, 0b0111, x⟩
  | .txReset => ⟨.txsel, 0b100000, 0⟩
  | .txIdle => ⟨.txsel, 0b000000, 0⟩
  | .txCapture d => ⟨.txsel, 0b001000, d.toNat⟩
  | .txArmedWait => ⟨.txsel, 0b000010, 0⟩
  | .txFirstBit => ⟨.txsel, 0b010010, 0⟩
  | .txSendWait => ⟨.txsel, 0b000100, 0⟩
  | .txBit => ⟨.txsel, 0b010100, 0⟩
  | .txEnd => ⟨.txsel, 0b010101, 0⟩
  | .txRecover => ⟨.txsel, 0b000110, 0⟩
  | .demodFromHigh x => ⟨.dmsel, 0b1, x⟩
  | .demodFromLow x => ⟨.dmsel, 0b0, x⟩

/-- A row of spec/opcode_table.json: a value belongs to it when its bits under `mask` are those of `pattern`. -/
structure Row where
  format : Format
  mask : Nat
  pattern : Nat
deriving DecidableEq, Repr

/-- The selector value `w` matches the row (R77 to R79). -/
def rowCovers (r : Row) (w : Nat) : Bool := w &&& r.mask == r.pattern

/-- The row of spec/opcode_table.json that an operation stands for: its "format", "mask" and "match". -/
def rowOf : Instr → Row
  | .rxReset => ⟨.rxsel, 0x8, 0x8⟩
  | .rxWait => ⟨.rxsel, 0xC, 0x0⟩
  | .rxScanTick _ => ⟨.rxsel, 0xE, 0x4⟩
  | .rxFrameTick _ => ⟨.rxsel, 0xF, 0x6⟩
  | .rxFrameLast _ => ⟨.rxsel, 0xF, 0x7⟩
  | .txReset => ⟨.txsel, 0x20, 0x20⟩
  | .txIdle => ⟨.txsel, 0x2E, 0x0⟩
  | .txCapture _ => ⟨.txsel, 0x2E, 0x8⟩
  | .txArmedWait => ⟨.txsel, 0x36, 0x2⟩
  | .txFirstBit => ⟨.txsel, 0x36, 0x12⟩
  | .txSendWait => ⟨.txsel, 0x36, 0x4⟩
  | .txBit => ⟨.txsel, 0x37, 0x14⟩
  | .txEnd => ⟨.txsel, 0x37, 0x15⟩
  | .txRecover => ⟨.txsel, 0x26, 0x6⟩
  | .demodFromHigh _ => ⟨.dmsel, 0x1, 0x1⟩
  | .demodFromLow _ => ⟨.dmsel, 0x1, 0x0⟩

/-- The 16 rows of spec/opcode_table.json, in its order. -/
def opcodeRows : List Row :=
  [rowOf .rxReset, rowOf .rxWait, rowOf (.rxScanTick 0), rowOf (.rxFrameTick 0), rowOf (.rxFrameLast 0),
   rowOf .txReset, rowOf .txIdle, rowOf (.txCapture 0), rowOf .txArmedWait, rowOf .txFirstBit, rowOf .txSendWait,
   rowOf .txBit, rowOf .txEnd, rowOf .txRecover, rowOf (.demodFromHigh 0), rowOf (.demodFromLow 0)]

/-- The selector that a table word of `nbits` bits belongs to. The widths 1, 4 and 6 are the three selectors'. For any
other width (the table's rows rounded up to one byte) it is that of the first row of the table whose "match" is the
number, and where there is no such row the narrowest selector that holds the number: DESIGN CHOICE, log entry 8. -/
def tableFormat (nbits w : Nat) : Option Format :=
  if nbits = 1 then some .dmsel
  else if nbits = 4 then some .rxsel
  else if nbits = 6 then some .txsel
  else
    match opcodeRows.find? fun r => r.pattern == w with
    | some r => some r.format
    | none => if w < 2 ^ 4 then some .rxsel else if w < 2 ^ 6 then some .txsel else none

/-- The operation the decoder reads from a word of spec/opcode_table.json, with operand ports of zeros. -/
def decodeTableWord (nbits w : Nat) : Option Instr :=
  (tableFormat nbits w).bind fun f => (decode 1 ⟨f, w, 0⟩).toOption

/-- The stimulus word of one cycle's inputs, for a core whose samples have `n` bits (R76). -/
def encodeStimulus (n : Nat) (i : Inputs) : Nat :=
  i.rst.toNat * 2 ^ (n + 11) + i.rxTick.toNat * 2 ^ (n + 10) + i.txTick.toNat * 2 ^ (n + 9) +
    i.txStart.toNat * 2 ^ (n + 8) + i.txData.toNat * 2 ^ n + i.sampleIn

/-- The inputs a stimulus word writes down (R76). -/
def decodeStimulus (n w : Nat) : Except Reject Inputs :=
  if w < 2 ^ (n + 12) then
    .ok { rst := w.testBit (n + 11)
          rxTick := w.testBit (n + 10)
          txTick := w.testBit (n + 9)
          txStart := w.testBit (n + 8)
          txData := BitVec.ofNat 8 (w / 2 ^ n)
          sampleIn := w % 2 ^ n }
  else .error .stimulusTooWide

end Sys2Proof
end

