-- ==== Sys2Proof/Machine/State.lean ====
section
/-! DEFINITION. The state of the core (spec/10_state.md R20), the reasons a step can stop, and the state after
reset (spec/70_reset_and_hazards.md R230, R231). -/

namespace Sys2Proof.Machine

/-- The reasons a step can fault: none. "A model's step function for the core therefore has no fault outcome for
any input" (R210), so there is no constructor and no definition raises one. -/
inductive Fault where
deriving DecidableEq, Repr

/-- The reasons a step can be refused. -/
inductive Refusal where
  /-- An arm of `exec` whose operation has no meaning yet would answer it; no arm does. Safe: nothing runs. -/
  | notModelled (mnemonic : String)
deriving DecidableEq, Repr

/-- The nine receiver registers and the four transmitter registers of R20, with the parameters the instance was
built with (R9) and the model's own record of the inputs to come and of the latest decision. -/
structure State where
  /-- The build-time parameters, which no step writes (R9, R34; log entry 1). -/
  build : Build
  /-- `prev_sample`: the sample of the latest receiver tick (R21). -/
  prevSample : Nat
  /-- `prev_symbol`: the symbol of the latest receiver tick (R22). -/
  prevSymbol : Symbol
  /-- `scan_acc`: the Preamble Scanner's free-running shift register (R23). -/
  scanAcc : Byte
  /-- `rx_mode`: who consumes the next receiver tick (R24). -/
  rxMode : RxMode
  /-- `pay_acc`: the Byte Framer's accumulator (R25). -/
  payAcc : Byte
  /-- `pay_count`: the payload symbols already in `pay_acc` (R26). -/
  payCount : BitVec 3
  /-- `rx_byte`: the payload of the latest completed frame (R27). -/
  rxByte : Byte
  /-- `rx_sync`: 1 for the cycle after a preamble match (R28). -/
  rxSync : Bool
  /-- `rx_valid`: 1 for the cycle after a payload byte completes (R29). -/
  rxValid : Bool
  /-- `tx_state`: the Modulator's sequencer (R30). -/
  txState : TxState
  /-- `tx_frame`: the frame being sent (R31). -/
  txFrame : Frame
  /-- `tx_index`: the frame bits already driven (R32). -/
  txIndex : BitVec 5
  /-- `line_out`: the level driven onto the channel (R33). -/
  lineOut : Level
  /-- The symbol the latest cycle's Demodulator decision gave, if it made one (R103). The model's own record: no
  operation reads it (log entry 4). -/
  decided : Option Symbol
  /-- The inputs of the cycles to come, the next one first. The model's own field (log entry 2). -/
  stimuli : List Inputs
  /-- The number of cycles run, which makes the free inputs of a cycle fresh. The model's own field (log entry 2). -/
  cycle : Nat
deriving DecidableEq, Repr

/-- The core built with `b`, right after RX_RESET and TX_RESET (R230, R231, R233), with no stimulus given. -/
def State.resetOf (b : Build) : State :=
  { build := b
    prevSample := 0
    prevSymbol := LOW
    scanAcc := 0x00#8
    rxMode := .scan
    payAcc := 0x00#8
    payCount := 0#3
    rxByte := 0x00#8
    rxSync := false
    rxValid := false
    txState := .idle
    txFrame := 0x0000#16
    txIndex := 0#5
    lineOut := LOW
    decided := none
    stimuli := []
    cycle := 0 }

/-- The machine right after reset (R230, R231), for whatever parameters it was built with. -/
def State.reset : State := State.resetOf Config.build

end Sys2Proof.Machine
end

