-- ==== Sys2Proof/Machine/Operands.lean ====
section
/-! DEFINITION. What a cycle reads at the input ports (spec/30_encoding.md R74; spec/20_memory.md R57), and how the
environment puts a value there. -/

namespace Sys2Proof.Machine

/-- The inputs of the current cycle: the next given stimulus, or, where none is given, whatever the environment
chooses (R217). -/
def State.inputs (s : State) : Inputs :=
  match s.stimuli with
  | i :: _ => i
  | [] => Config.environment s.cycle

/-- `in(sample_in)`: the port carries `SAMPLE_BITS` bits (R74, R83). -/
def State.sampleIn (s : State) : Nat := s.inputs.sampleIn % 2 ^ s.build.sampleBits

/-- `in(tx_data)` (R74). -/
def State.txData (s : State) : Byte := s.inputs.txData

/-- The state in which the environment presents `i` in the current cycle and what was to come before after it. -/
def State.drive (i : Inputs) (s : State) : State := { s with stimuli := i :: s.stimuli }

end Sys2Proof.Machine
end

