-- ==== Sys2Proof/Machine/Flags.lean ====
section
/-! DEFINITION. The 1-bit values that play the part of flags, the derived ones among them, the selectors they go
into, and the output ports (spec/10_state.md R37, R38; spec/30_encoding.md R74, R77 to R79). -/

namespace Sys2Proof.Machine

/-- `rx_last`: the next payload symbol is the eighth (R77). -/
def State.rxLast (s : State) : Bool := s.payCount == 7#3

/-- `tx_last`: all 16 bits have been driven, or the index is one of the values 17 to 31 (R78, R81). -/
def State.txLast (s : State) : Bool := decide (16 ≤ s.txIndex.toNat)

/-- `tx_busy` (R38). -/
def State.txBusy (s : State) : Bool := s.txState != .idle

/-- The write of the two strobes, which every receiver operation makes (R28, R29). -/
def State.setStrobes (sync valid : Bool) (s : State) : State := { s with rxSync := sync, rxValid := valid }

/-- RXSEL in the current cycle (R77). -/
def State.rxsel (s : State) : BitVec 4 := rxselWord s.inputs.rst s.inputs.rxTick s.rxMode s.rxLast

/-- TXSEL in the current cycle (R78). -/
def State.txsel (s : State) : BitVec 6 :=
  txselWord s.inputs.rst s.inputs.txTick s.inputs.txStart s.txState s.txLast

/-- DMSEL in the current cycle (R79). -/
def State.dmsel (s : State) : BitVec 1 := dmselWord s.prevSymbol

/-- The receiver's output ports (R74). -/
structure RxPorts where
  rxSymbol : Bool
  rxFraming : Bool
  rxSync : Bool
  rxValid : Bool
  rxByte : Byte
deriving DecidableEq, Repr

/-- The transmitter's output ports (R74). -/
structure TxPorts where
  lineOut : Level
  txBusy : Bool
deriving DecidableEq, Repr

/-- What the receiver's output ports show in a cycle that starts in `s`; an instance without the path has none of
them (R4, R74). No input is read. -/
def State.rxPorts (s : State) : Option RxPorts :=
  if s.build.paths.includeRx then
    some { rxSymbol := s.prevSymbol
           rxFraming := s.rxMode == .frame
           rxSync := s.rxSync
           rxValid := s.rxValid
           rxByte := s.rxByte }
  else none

/-- What the transmitter's output ports show in a cycle that starts in `s` (R4, R38, R74). -/
def State.txPorts (s : State) : Option TxPorts :=
  if s.build.paths.includeTx then some { lineOut := s.lineOut, txBusy := s.txBusy } else none

end Sys2Proof.Machine
end

