-- ==== Sys2Proof/Machine/Ops.lean ====
section
/-! DEFINITION. The operations the meanings share: the Demodulator's decision, the shift register, and the groups of
register writes of spec/40_demodulator.md to spec/43_modulator.md and spec/70_reset_and_hazards.md. The core takes no
exception and returns from none (R210, R214): reset is the only operation outside its normal sequence. -/

namespace Sys2Proof.Machine

/-- The decision from HIGH: strict, on integers that do not wrap (R12, R100). -/
def decideFromHigh (threshold : Nat) (prevSample sample : Nat) : Symbol :=
  decide ((sample : Int) > (prevSample : Int) - (threshold : Int))

/-- The decision from LOW: inclusive, on integers that do not wrap (R12, R101, C1). -/
def decideFromLow (threshold : Nat) (prevSample sample : Nat) : Symbol :=
  decide ((sample : Int) ≥ (prevSample : Int) + (threshold : Int))

/-- `Demod` (R14): the decision that DMSEL selects (R79). -/
def demod (threshold : Nat) (prevSymbol : Symbol) (prevSample sample : Nat) : Symbol :=
  match prevSymbol with
  | true => decideFromHigh threshold prevSample sample
  | false => decideFromLow threshold prevSample sample

/-- `Shift8` (R14): the accumulator shifted left, its bit 7 lost and the symbol in bit 0. -/
def shift8 (acc : Byte) (symbol : Symbol) : Byte := (acc <<< 1) ||| (BitVec.ofBool symbol).setWidth 8

/-- The frame `{PREAMBLE, payload}` (R72). -/
def frameOf (payload : Byte) : Frame := Config.preamble ++ payload

/-- `tx_frame[15 - tx_index]` (R165). Above 15, where R165 gives no operand, the level is free (log entry 11). -/
def frameBit (frame : Frame) (index : BitVec 5) : Level :=
  if index.toNat ≤ 15 then frame.getLsbD (15 - index.toNat) else Config.absentFrameBit frame index

/-- The symbol this core decides for a sample (R105). -/
def State.symbolOf (sample : Nat) (s : State) : Symbol :=
  demod s.build.threshold s.prevSymbol s.prevSample sample

/-- The result of a Demodulator decision, shown and written to no register (R100, R101: "Flags written: none by
itself"). -/
def State.showDecision (symbol : Symbol) (s : State) : State := { s with decided := some symbol }

/-- The Demodulator's write-back in every receiver tick (R102). -/
def State.demodTick (sample : Nat) (s : State) : State :=
  { s with prevSample := sample, prevSymbol := s.symbolOf sample }

/-- The scanner's shift register takes the shifted value (R120). -/
def State.setScanAcc (acc : Byte) (s : State) : State := { s with scanAcc := acc }

/-- The hand-over to the Byte Framer on a match (R120, R121). -/
def State.startFrame (s : State) : State := { s with rxMode := .frame, payAcc := 0x00#8, payCount := 0#3 }

/-- One payload symbol goes into the accumulator (R140). -/
def State.pushPayload (acc : Byte) (s : State) : State := { s with payAcc := acc, payCount := s.payCount + 1#3 }

/-- The payload byte is complete and the scanner has control again (R141). -/
def State.finishFrame (acc : Byte) (s : State) : State :=
  { s with payAcc := acc, rxByte := acc, payCount := 0#3, rxMode := .scan }

/-- The receiver's reset values (R230). -/
def State.resetRx (s : State) : State :=
  { s with
    prevSample := 0
    prevSymbol := LOW
    scanAcc := 0x00#8
    rxMode := .scan
    payAcc := 0x00#8
    payCount := 0#3
    rxByte := 0x00#8
    rxSync := false
    rxValid := false }

/-- The transmitter's reset values (R231). -/
def State.resetTx (s : State) : State :=
  { s with txState := .idle, txFrame := 0x0000#16, txIndex := 0#5, lineOut := LOW }

/-- The line takes a level (R33). -/
def State.setLine (level : Level) (s : State) : State := { s with lineOut := level }

/-- A frame is captured and waits for its first tick (R161). -/
def State.captureFrame (payload : Byte) (s : State) : State :=
  { s with txFrame := frameOf payload, txIndex := 0#5, txState := .armed, lineOut := LOW }

/-- The first bit goes out (R163). -/
def State.startSending (s : State) : State :=
  { s with lineOut := s.txFrame.getLsbD 15, txIndex := 1#5, txState := .send }

/-- A later bit goes out (R165). -/
def State.sendBit (s : State) : State :=
  { s with lineOut := frameBit s.txFrame s.txIndex, txIndex := s.txIndex + 1#5 }

/-- The transmitter drives the idle level and takes requests again (R166, R167). -/
def State.goIdle (s : State) : State := { s with lineOut := LOW, txState := .idle, txIndex := 0#5 }

/-- The start of a cycle: no decision has been made in it (R103). -/
def State.beginCycle (s : State) : State := { s with decided := none }

/-- The end of a cycle: its stimulus is used up and the environment chooses the next. -/
def State.endCycle (s : State) : State := { s with stimuli := s.stimuli.tail, cycle := s.cycle + 1 }

end Sys2Proof.Machine
end

