-- ==== Sys2Proof/Machine/ByteFramer.lean ====
section
/-! DEFINITION. The Byte Framer's two ticks (spec/42_byte_framer.md). -/

namespace Sys2Proof.Machine

/-- RX_FRAME_TICK (R140). -/
def execRxFrameTick (sample : Nat) (s : State) : Host.Outcome State Fault Refusal :=
  .next (((s.demodTick sample).pushPayload (shift8 s.payAcc (s.symbolOf sample))).setStrobes false false)

/-- RX_FRAME_LAST (R141). -/
def execRxFrameLast (sample : Nat) (s : State) : Host.Outcome State Fault Refusal :=
  .next (((s.demodTick sample).finishFrame (shift8 s.payAcc (s.symbolOf sample))).setStrobes false true)

end Sys2Proof.Machine
end

