-- ==== Sys2Proof/Machine/Demodulator.lean ====
section
/-! DEFINITION. The Demodulator's two decisions and the receiver's cycle without a tick (spec/40_demodulator.md). -/

namespace Sys2Proof.Machine

/-- DEMOD_FROM_HIGH (R100): the decision is shown; the receiver tick around it writes it to `prev_symbol` (R102). -/
def execDemodFromHigh (sample : Nat) (s : State) : Host.Outcome State Fault Refusal :=
  .next (s.showDecision (decideFromHigh s.build.threshold s.prevSample sample))

/-- DEMOD_FROM_LOW (R101): the decision is shown; the receiver tick around it writes it to `prev_symbol` (R102). -/
def execDemodFromLow (sample : Nat) (s : State) : Host.Outcome State Fault Refusal :=
  .next (s.showDecision (decideFromLow s.build.threshold s.prevSample sample))

/-- RX_WAIT (R106). -/
def execRxWait (s : State) : Host.Outcome State Fault Refusal := .next (s.setStrobes false false)

end Sys2Proof.Machine
end

