-- ==== Sys2Proof/Machine/Modulator.lean ====
section
/-! DEFINITION. The Modulator's operations (spec/43_modulator.md). -/

namespace Sys2Proof.Machine

/-- TX_IDLE (R160). -/
def execTxIdle (s : State) : Host.Outcome State Fault Refusal := .next (s.setLine LOW)

/-- TX_CAPTURE (R161). -/
def execTxCapture (data : Byte) (s : State) : Host.Outcome State Fault Refusal := .next (s.captureFrame data)

/-- TX_ARMED_WAIT (R162): no register changes. -/
def execTxArmedWait (s : State) : Host.Outcome State Fault Refusal := .next s

/-- TX_FIRST_BIT (R163). -/
def execTxFirstBit (s : State) : Host.Outcome State Fault Refusal := .next s.startSending

/-- TX_SEND_WAIT (R164): no register changes. -/
def execTxSendWait (s : State) : Host.Outcome State Fault Refusal := .next s

/-- TX_BIT (R165). -/
def execTxBit (s : State) : Host.Outcome State Fault Refusal := .next s.sendBit

/-- TX_END (R166). -/
def execTxEnd (s : State) : Host.Outcome State Fault Refusal := .next s.goIdle

/-- TX_RECOVER (R167). -/
def execTxRecover (s : State) : Host.Outcome State Fault Refusal := .next s.goIdle

end Sys2Proof.Machine
end

