-- ==== Sys2Proof/Machine/PreambleScanner.lean ====
section
/-! DEFINITION. The Preamble Scanner's tick (spec/41_preamble_scanner.md). -/

namespace Sys2Proof.Machine

/-- RX_SCAN_TICK (R120): the value compared is the one with the new symbol in it (R123). -/
def execRxScanTick (sample : Nat) (s : State) : Host.Outcome State Fault Refusal :=
  let acc := shift8 s.scanAcc (s.symbolOf sample)
  let scanned := (s.demodTick sample).setScanAcc acc
  .next (if acc = Config.preamble then scanned.startFrame.setStrobes true false else scanned.setStrobes false false)

end Sys2Proof.Machine
end

