-- ==== Sys2Proof/Machine/Reset.lean ====
section
/-! DEFINITION. The two reset operations (spec/70_reset_and_hazards.md section 1). -/

namespace Sys2Proof.Machine

/-- RX_RESET (R230). -/
def execRxReset (s : State) : Host.Outcome State Fault Refusal := .next s.resetRx

/-- TX_RESET (R231). -/
def execTxReset (s : State) : Host.Outcome State Fault Refusal := .next s.resetTx

end Sys2Proof.Machine
end

