-- ==== Sys2Proof/Machine/Dispatch.lean ====
section
/-! DEFINITION. One arm for each row of spec/opcode_table.json. -/

namespace Sys2Proof.Machine

def exec (i : Instr) (s : State) : Host.Outcome State Fault Refusal :=
  match i with
  | .rxReset => Sys2Proof.Machine.execRxReset s
  | .rxWait => Sys2Proof.Machine.execRxWait s
  | .rxScanTick sample => Sys2Proof.Machine.execRxScanTick sample s
  | .rxFrameTick sample => Sys2Proof.Machine.execRxFrameTick sample s
  | .rxFrameLast sample => Sys2Proof.Machine.execRxFrameLast sample s
  | .txReset => Sys2Proof.Machine.execTxReset s
  | .txIdle => Sys2Proof.Machine.execTxIdle s
  | .txCapture data => Sys2Proof.Machine.execTxCapture data s
  | .txArmedWait => Sys2Proof.Machine.execTxArmedWait s
  | .txFirstBit => Sys2Proof.Machine.execTxFirstBit s
  | .txSendWait => Sys2Proof.Machine.execTxSendWait s
  | .txBit => Sys2Proof.Machine.execTxBit s
  | .txEnd => Sys2Proof.Machine.execTxEnd s
  | .txRecover => Sys2Proof.Machine.execTxRecover s
  | .demodFromHigh sample => Sys2Proof.Machine.execDemodFromHigh sample s
  | .demodFromLow sample => Sys2Proof.Machine.execDemodFromLow sample s

end Sys2Proof.Machine
end

