-- ==== Sys2Proof/Machine/Cycle.lean ====
section
/-! DEFINITION. One clock cycle: which operations it performs and in what order the model writes them down
(spec/00_scope.md R13; spec/30_encoding.md section 4; spec/60_exceptions.md R213), and how an operation is placed
where the next cycle selects it. -/

namespace Sys2Proof.Machine

/-- The receiver's operation in the current cycle (R77). -/
def State.rxOperation (s : State) : Instr := decodeRxsel s.rxsel s.sampleIn

/-- The transmitter's operation in the current cycle (R78). -/
def State.txOperation (s : State) : Instr := decodeTxsel s.txsel s.txData

/-- The Demodulator's decision in the current cycle, if it is a receiver tick (R79, R103). -/
def State.dmOperation (s : State) : Instr := decodeDmsel s.dmsel s.sampleIn

/-- A decision is made in the cycle: `rx_tick` = 1 and `rst` = 0 (R103). -/
def State.decides (s : State) : Bool := s.inputs.rxTick && !s.inputs.rst

/-- The operations of the current cycle: those of the paths the instance holds (R4, R80), the decision inside a
receiver tick standing before the tick (R79). -/
def State.operations (s : State) : List Instr :=
  (if s.build.paths.includeRx then
    (if s.decides then [s.dmOperation, s.rxOperation] else [s.rxOperation]) else []) ++
  (if s.build.paths.includeTx then [s.txOperation] else [])

/-- Operations one after another. The decision stands before the tick that writes what it read, and the two paths
share no register, so every operation of a cycle reads the values of the cycle's start and the writes take effect
together (R13, R59, R64; log entry 5). -/
def execAll : List Instr → State → Host.Outcome State Fault Refusal
  | [], s => .next s
  | i :: rest, s =>
    match exec i s with
    | .next t => execAll rest t
    | .fault r => .fault r
    | .refused r => .refused r

/-- One clock cycle. Every operation is selected from the registers and inputs of the cycle's start (R13). -/
def runCycle (s : State) : Host.Outcome State Fault Refusal :=
  match execAll s.operations s.beginCycle with
  | .next t => .next t.endCycle
  | .fault r => .fault r
  | .refused r => .refused r

/-- The state whose next cycle selects the encoded operation: its selector's input bits and operand are presented
in that cycle, its selector's state bits are set, and the instance is one that holds the operation's path. -/
def State.place (e : Encoded) (s : State) : State :=
  let build : Build := { s.build with paths := .both }
  let quiet : Inputs := Inputs.nop
  match e.format with
  | .rxsel =>
    { s with
      build := build
      rxMode := rxModeOfBit (e.word.testBit 1)
      payCount := if e.word.testBit 0 then 7#3 else if s.payCount = 7#3 then 0#3 else s.payCount
      stimuli := { quiet with rst := e.word.testBit 3, rxTick := e.word.testBit 2, sampleIn := e.operand } :: s.stimuli }
  | .txsel =>
    { s with
      build := build
      txState := txStateOfBits (e.word.testBit 2) (e.word.testBit 1)
      txIndex := if e.word.testBit 0 then (if 16 ≤ s.txIndex.toNat then s.txIndex else 16#5)
        else if 16 ≤ s.txIndex.toNat then 0#5 else s.txIndex
      stimuli := { quiet with rst := e.word.testBit 5, txTick := e.word.testBit 4, txStart := e.word.testBit 3,
                              txData := BitVec.ofNat 8 e.operand } :: s.stimuli }
  | .dmsel =>
    { s with
      build := build
      prevSymbol := e.word.testBit 0
      stimuli := { quiet with rxTick := true, sampleIn := e.operand } :: s.stimuli }

/-- The state whose next cycle selects a word of spec/opcode_table.json, its operand port at 0. -/
def State.placeTableWord (nbits w : Nat) (s : State) : State :=
  match tableFormat nbits w with
  | some f => s.place ⟨f, w, 0⟩
  | none => s

end Sys2Proof.Machine
end

