-- ==== Sys2Proof/Machine/Step.lean ====
section
/-! DEFINITION. One step of the machine is one clock cycle (spec/00_scope.md R13). -/

namespace Sys2Proof.Machine

/-- One clock cycle of the core, with the inputs `State.inputs` gives it. -/
def step (s : State) : Host.Outcome State Fault Refusal := runCycle s

/-- `s` with a word of spec/opcode_table.json where the next step selects its operation (log entry 8). -/
def State.withFetchWord (s : State) (nbits w : Nat) : State := s.placeTableWord nbits w

end Sys2Proof.Machine
end

