-- ==== Sys2Proof/Machine/Stimulus.lean ====
section
/-! DEFINITION. The stimulus notation (spec/30_encoding.md R84), the ideal two-level channel and its loopback
(spec/45_external_interfaces.md R193), and runs over given inputs. These describe what surrounds the core. -/

namespace Sys2Proof.Machine

/-- One stimulus item (R84). -/
inductive Item where
  /-- `NOP`: no input active. -/
  | nop
  /-- `RST`: reset. -/
  | rst
  /-- `RX s`: a receiver tick reading sample `s`. -/
  | rx (sample : Nat)
  /-- `TT`: a transmitter tick. -/
  | tt
  /-- `TX b`: a start request with payload `b`. -/
  | tx (payload : Byte)
deriving DecidableEq, Repr

/-- The stimulus-word fields an item names (R84). -/
def applyItem (i : Inputs) : Item → Inputs
  | .nop => i
  | .rst => { i with rst := true }
  | .rx s => { i with rxTick := true, sampleIn := s }
  | .tt => { i with txTick := true }
  | .tx b => { i with txStart := true, txData := b }

/-- One line of a test program: items of one cycle; fields that no item names are 0 (R84). Where two items of a line name
the same field with different values (`RX 1 ; RX 2`, `TX 1 ; TX 2`), to which R84 gives no meaning, the later one wins:
DESIGN CHOICE, log entry 16. -/
def lineInputs (items : List Item) : Inputs := items.foldl applyItem Inputs.nop

/-- The pseudo-item `WAIT n` (R84). -/
def waitItem (n : Nat) : List (List Item) := List.replicate n [.nop]

/-- The pseudo-item `SEND b`: one capture, 16 bit ticks and the end tick (R84). -/
def sendItem (payload : Byte) : List (List Item) := [.tx payload] :: List.replicate 17 [.tt]

/-- The sample an ideal two-level channel makes of a line level (R193). -/
def idealSample (low high : Nat) (level : Level) : Nat := if level then high else low

/-- The pseudo-item `RXBITS L H b1 .. bk` (R84). -/
def rxBitsItem (low high : Nat) (bits : List Level) : List (List Item) :=
  bits.map fun b => [.rx (idealSample low high b)]

/-- The pseudo-item `LB L H`: the one whose inputs depend on the state (R84). -/
def loopbackInputs (low high : Nat) (s : State) : Inputs :=
  lineInputs [.rx (idealSample low high s.lineOut), .tt]

/-- One clock cycle of a loopback whose two ends share one tick (R193). -/
inductive LoopCycle where
  /-- No tick: `NOP`. -/
  | wait
  /-- The shared tick: `LB low high`. -/
  | tick
  /-- A start request without a tick: `TX payload`. -/
  | request (payload : Byte)
deriving DecidableEq, Repr

/-- The inputs of a loopback's cycle (R84, R193). -/
def LoopCycle.inputs (low high : Nat) (s : State) : LoopCycle → Inputs
  | .wait => lineInputs [.nop]
  | .tick => loopbackInputs low high s
  | .request payload => lineInputs [.tx payload]

/-- What R193 asks of the ideal channel's two samples, for a core built with `b`. -/
def idealChannel (b : Build) (low high : Nat) : Bool :=
  decide (1 ≤ b.threshold) && decide (low + b.threshold ≤ high) && sampleInRange b.sampleBits high

/-- The cycles the inputs describe, one after another. -/
def runInputs : List Inputs → State → Host.Outcome State Fault Refusal
  | [], s => .next s
  | i :: rest, s =>
    match step (s.drive i) with
    | .next t => runInputs rest t
    | .fault r => .fault r
    | .refused r => .refused r

/-- The states at the ends of a loopback's cycles, as long as the machine goes on. -/
def loopbackTrace (low high : Nat) : List LoopCycle → State → List State
  | [], _ => []
  | c :: rest, s =>
    match step (s.drive (c.inputs low high s)) with
    | .next t => t :: loopbackTrace low high rest t
    | .fault _ => []
    | .refused _ => []

/-- The symbols that scanning ticks consume in the cycles the inputs describe, oldest first (R125). -/
def scannedSymbols : List Inputs → State → List Symbol
  | [], _ => []
  | i :: rest, s =>
    let driven := s.drive i
    let here := if driven.build.paths.includeRx && driven.decides && driven.rxMode == .scan
      then [driven.symbolOf driven.sampleIn] else []
    match step driven with
    | .next t => here ++ scannedSymbols rest t
    | .fault _ => here
    | .refused _ => here

/-- The samples that the receiver ticks among the inputs read, for a port of `n` bits (R83, R103). -/
def tickSamples (n : Nat) (inputs : List Inputs) : List Nat :=
  (inputs.filter (·.rxTick)).map (·.sampleIn % 2 ^ n)

/-- How many transmitter ticks the inputs hold. -/
def txTicks (inputs : List Inputs) : Nat := (inputs.filter (·.txTick)).length

/-- No cycle of the inputs is a reset. -/
def noReset (inputs : List Inputs) : Bool := inputs.all (!·.rst)

/-- The symbols the Demodulator decides for samples that come one per receiver tick (R58, R102). -/
def symbolsOf (threshold : Nat) : Symbol → Nat → List Nat → List Symbol
  | _, _, [] => []
  | prevSymbol, prevSample, x :: rest =>
    demod threshold prevSymbol prevSample x :: symbolsOf threshold (demod threshold prevSymbol prevSample x) x rest

end Sys2Proof.Machine
end

