-- ==== Sys2Proof/Machine/Controller.lean ====
section
/-! DEFINITION. The collaborators around the core, each outside it (spec/45_external_interfaces.md): the host's
command mapping, the Channel Controller, a receiver node, and a link of one transmitter and its receivers. -/

namespace Sys2Proof.Machine

/-- The channel of a command character: `'0'` to `'9'`, `0x30` to `0x39`, less `0x30`; any other character asks for
no transmission (R194). -/
def channelOfChar (code : Nat) : Option Byte :=
  if 0x30 ≤ code ∧ code ≤ 0x39 then some (BitVec.ofNat 8 (code - 0x30)) else none

/-- The host's inputs for a command character: the request `TX (char - 0x30)`, or no request (R194). -/
def hostInputs (code : Nat) (i : Inputs) : Inputs :=
  match channelOfChar code with
  | some channel => applyItem i (.tx channel)
  | none => i

/-- The state of the external Channel Controller (R41, R196, R199). -/
structure Controller where
  /-- The Tuned Channel, 1 to 9 (R199). -/
  tuned : Nat
  /-- The Last Decoded Transmission Channel (R196). -/
  lastDecoded : Byte
deriving DecidableEq, Repr

/-- The gate output (R197). -/
inductive Gate where
  /-- OPEN: audio passes. -/
  | opened
  /-- CLOSED. -/
  | closed
deriving DecidableEq, Repr

/-- A controller at its start, for whatever `TUNED_INIT` and `LAST_INIT` it was built with (D31). -/
def Controller.start : Controller :=
  { tuned := Config.tunedInitLessOne.val + 1, lastDecoded := Config.lastInit }

/-- The gate: a pure function of the two channels (R197). -/
def gateOf (tuned : Nat) (lastDecoded : Byte) : Gate :=
  if lastDecoded.toNat = tuned ∨ lastDecoded = 0 then .opened else .closed

/-- The gate that a controller drives. It is a function of the controller's state, so each change of that state
recomputes it at once (R196, R198). -/
def Controller.gate (c : Controller) : Gate := gateOf c.tuned c.lastDecoded

/-- The toggle event: advance the Tuned Channel by 1, wrapping 9 to 1 (R198). -/
def Controller.toggle (c : Controller) : Controller :=
  { c with tuned := if c.tuned = 9 then 1 else c.tuned + 1 }

/-- What the controller stores in a cycle that shows it these receiver outputs: the byte, where `rx_valid` = 1
(R196). -/
def Controller.observe (ports : Option RxPorts) (c : Controller) : Controller :=
  match ports with
  | some p => if p.rxValid then { c with lastDecoded := p.rxByte } else c
  | none => c

/-- A receiver node: a core and the controller that reads it (R217). -/
structure Node where
  core : State
  controller : Controller
deriving DecidableEq, Repr

/-- One cycle of a receiver node: the controller observes the outputs the cycle shows and takes the toggle, if one
comes; the core takes its own step, which no toggle reaches (R196, R198). R198 relates the asynchronous toggle to no
clock: that a cycle takes none or one, and shows its effect from the next cycle on, is DESIGN CHOICE, log entry 13. No rule gives the
controller a reset: that a reset of the core leaves the Last Decoded Transmission Channel as it is, is DESIGN CHOICE, log
entry 17. -/
def Node.cycle (inputs : Inputs) (toggled : Bool) (n : Node) : Host.Outcome Node Fault Refusal :=
  let observed := n.controller.observe n.core.rxPorts
  match step (n.core.drive inputs) with
  | .next t => .next { core := t, controller := if toggled then observed.toggle else observed }
  | .fault r => .fault r
  | .refused r => .refused r

/-- A link: one transmitter and any number of receivers on one channel (R203). -/
structure Link where
  transmitter : State
  receivers : List Node
deriving DecidableEq, Repr

/-- The receivers' half of a link's cycle: each, with its number, reads what the channel makes of the line for it, is
reset if the environment says so, and decodes on its own (R190, R203, R217). A receiver never transmits back (R203), so
its own transmitter gets neither a tick nor a request
(DESIGN CHOICE, log entry 13); in one cycle it takes none or one toggle (DESIGN CHOICE, log entry 13). -/
def receiversCycle (channel : Nat → Level → Nat) (level : Level) (tick : Bool) (resets toggles : Nat → Bool) :
    Nat → List Node → Host.Outcome (List Node) Fault Refusal
  | _, [] => .next []
  | k, n :: rest =>
    match n.cycle { Inputs.nop with rst := resets k, rxTick := tick, sampleIn := channel k level } (toggles k) with
    | .next n' =>
      match receiversCycle channel level tick resets toggles (k + 1) rest with
      | .next rest' => .next (n' :: rest')
      | .fault r => .fault r
      | .refused r => .refused r
    | .fault r => .fault r
    | .refused r => .refused r

/-- One cycle of a link whose ends tick together (R191): the receivers read the level the transmitter drove before,
through the channel, a parameter of the environment (R190); the transmitter takes the host's request, if there is
one, and reads nothing back (R170). The environment chooses the reset of each end (R217). The shared tick, and that the
transmitter's own receiver gets no tick, are DESIGN CHOICE, log entry 13, and so is that `toggles` gives each receiver none
or one toggle in the cycle. -/
def Link.cycle (channel : Nat → Level → Nat) (tick : Bool) (request : Option Byte) (reset : Bool)
    (resets toggles : Nat → Bool) (l : Link) : Host.Outcome Link Fault Refusal :=
  let asked : Inputs :=
    { Inputs.nop with rst := reset, txTick := tick, txStart := request.isSome, txData := request.getD 0 }
  match step (l.transmitter.drive asked) with
  | .next t =>
    match receiversCycle channel l.transmitter.lineOut tick resets toggles 0 l.receivers with
    | .next rs => .next { transmitter := t, receivers := rs }
    | .fault r => .fault r
    | .refused r => .refused r
  | .fault r => .fault r
  | .refused r => .refused r

end Sys2Proof.Machine
end

