-- ==== Sys2Proof/Safety.lean ====
section
/-! DEFINITION. What a good state and a safe run are, in the terms the statements use (spec/10_state.md R40). -/

namespace Sys2Proof.Machine

/-- The seven invariants of R40, for a core built with legal parameters and whose sample register holds a value of
its width (R9, R21). -/
structure State.Legal (s : State) : Prop where
  /-- The parameters are legal (R9). -/
  build_wellFormed : s.build.wellFormed = true
  /-- `prev_sample` holds `SAMPLE_BITS` bits (R21). -/
  prevSample_inRange : s.prevSample < 2 ^ s.build.sampleBits
  /-- `tx_state != 0b11`. -/
  txState_not_reserved : s.txState ≠ .reserved
  /-- `tx_index <= 16`. -/
  txIndex_le : s.txIndex.toNat ≤ 16
  /-- If `tx_state == IDLE` then `line_out == 0` and `tx_index == 0`. -/
  idle_at_rest : s.txState = .idle → s.lineOut = LOW ∧ s.txIndex = 0#5
  /-- If `tx_state == ARMED` then `tx_index == 0`. -/
  armed_unsent : s.txState = .armed → s.txIndex = 0#5
  /-- If `tx_state == SEND` then 1 <= `tx_index` <= 16. -/
  send_started : s.txState = .send → 1 ≤ s.txIndex.toNat
  /-- If `rx_mode == SCAN` then `pay_count == 0`. -/
  scan_no_payload : s.rxMode = .scan → s.payCount = 0#3
  /-- `rx_sync` and `rx_valid` are never both 1. -/
  not_both_strobes : ¬ (s.rxSync = true ∧ s.rxValid = true)

/-- What more ties the registers of a running core together: what the accumulators, the frame register and the line
hold in each mode (R102, R124, R145, R121, R161, R163, R165). -/
structure State.Coherent (s : State) : Prop where
  /-- Through a frame `scan_acc` keeps the `0xB2` of the match (R124). -/
  frame_keeps_preamble : s.rxMode = .frame → s.scanAcc = Config.preamble
  /-- In the middle of a frame `pay_acc` shows only that frame's symbols (R145). -/
  payload_in_low_bits : s.rxMode = .frame → s.payAcc.toNat < 2 ^ s.payCount.toNat
  /-- `rx_sync` = 1 comes with the Byte Framer holding control at payload symbol 0 (R120, R121). -/
  sync_starts_frame : s.rxSync = true → s.rxMode = .frame ∧ s.payCount = 0#3
  /-- `rx_valid` = 1 comes with the byte just assembled and the scanner in control (R60, R141). -/
  valid_shows_byte : s.rxValid = true → s.rxMode = .scan ∧ s.rxByte = s.payAcc
  /-- A captured frame has the preamble in its upper half (R31, R72). -/
  frame_has_preamble : s.txState ≠ .idle → s.txFrame.extractLsb' 8 8 = Config.preamble
  /-- The line waits at the idle level until the first bit (R161, R162). -/
  armed_line_low : s.txState = .armed → s.lineOut = LOW
  /-- While sending, the line shows the frame bit driven last (R163, R164, R165). -/
  send_line_is_frame_bit : s.txState = .send → s.lineOut = s.txFrame.getLsbD (16 - s.txIndex.toNat)

/-- Two states hold the same registers of the core and the same parameters; the model's own fields may differ. -/
def State.sameCore (s t : State) : Prop :=
  { s with decided := t.decided, stimuli := t.stimuli, cycle := t.cycle } = t

/-- Two states hold the same receiver registers (R20). -/
def State.sameReceiver (s t : State) : Prop :=
  s.prevSample = t.prevSample ∧ s.prevSymbol = t.prevSymbol ∧ s.scanAcc = t.scanAcc ∧ s.rxMode = t.rxMode ∧
    s.payAcc = t.payAcc ∧ s.payCount = t.payCount ∧ s.rxByte = t.rxByte ∧ s.rxSync = t.rxSync ∧
    s.rxValid = t.rxValid

/-- Two states hold the same transmitter registers (R20). -/
def State.sameTransmitter (s t : State) : Prop :=
  s.txState = t.txState ∧ s.txFrame = t.txFrame ∧ s.txIndex = t.txIndex ∧ s.lineOut = t.lineOut

/-- A state a run of the core from reset comes to, whatever parameters it was built with and whatever the
environment does (R233). -/
inductive Reachable : State → Prop where
  | reset (b : Build) (h : b.wellFormed = true) : Reachable (State.resetOf b)
  | step (s t : State) (i : Inputs) (h : Reachable s) (hs : Machine.step (s.drive i) = .next t) : Reachable t

end Sys2Proof.Machine
end

