-- ==== Sys2Proof/Certificates/Slice0/Obligations.lean ====
section
/-! DEFINITION. The statements about the VOLF link core, each from a rule of spec/. A statement of an operation gives
its selector row, its whole next state (so its frame: every field not written keeps its value), and its output. -/

open Sys2Proof Sys2Proof.Machine

/-! ## The operations, one by one -/

/-- R230: RXSEL `1xxx`, and the nine reset values, from every state. -/
def Obligations.RxResetWritesResetValues : Prop :=
  (∀ (w : BitVec 4) (x : Nat), decodeRxsel w x = .rxReset ↔ w.getLsbD 3 = true) ∧
  ∀ s : State, exec .rxReset s = .next { s with
    prevSample := 0, prevSymbol := LOW, scanAcc := 0x00#8, rxMode := .scan, payAcc := 0x00#8, payCount := 0#3,
    rxByte := 0x00#8, rxSync := false, rxValid := false }

/-- R231: TXSEL `1xxxxx`, and the four reset values, from every state; `tx_busy` is 0 after it. -/
def Obligations.TxResetWritesResetValues : Prop :=
  (∀ (w : BitVec 6) (d : Byte), decodeTxsel w d = .txReset ↔ w.getLsbD 5 = true) ∧
  ∀ s : State, ∃ t : State, exec .txReset s = .next t ∧
    t = { s with txState := .idle, txFrame := 0x0000#16, txIndex := 0#5, lineOut := LOW } ∧ t.txBusy = false

/-- R106: RXSEL `00xx`; the strobes fall and nothing else changes, so a further RX_WAIT changes nothing at all. -/
def Obligations.RxWaitOnlyClearsStrobes : Prop :=
  (∀ (w : BitVec 4) (x : Nat), decodeRxsel w x = .rxWait ↔ w.getLsbD 3 = false ∧ w.getLsbD 2 = false) ∧
  ∀ s : State, ∃ t : State, exec .rxWait s = .next t ∧ t = { s with rxSync := false, rxValid := false } ∧
    exec .rxWait t = .next t

/-- R120: RXSEL `010x`; the symbol is decided, kept and shifted into `scan_acc`, and the shifted value is compared:
a match hands over to the Byte Framer and sets `rx_sync`, any other value only clears the strobes. -/
def Obligations.RxScanTickShiftsAndCompares : Prop :=
  (∀ (w : BitVec 4) (x : Nat),
    decodeRxsel w x = .rxScanTick x ↔ w.getLsbD 3 = false ∧ w.getLsbD 2 = true ∧ w.getLsbD 1 = false) ∧
  ∀ (s : State) (x : Nat) (sym : Symbol) (a : Byte),
    sym = demod s.build.threshold s.prevSymbol s.prevSample x → a = shift8 s.scanAcc sym →
    (a = 0xB2#8 → exec (.rxScanTick x) s = .next { s with
      prevSample := x, prevSymbol := sym, scanAcc := a, rxMode := .frame, payAcc := 0x00#8, payCount := 0#3,
      rxSync := true, rxValid := false }) ∧
    (a ≠ 0xB2#8 → exec (.rxScanTick x) s = .next { s with
      prevSample := x, prevSymbol := sym, scanAcc := a, rxSync := false, rxValid := false })

/-- R140: RXSEL `0110`; the symbol goes into `pay_acc`, the count goes up by one without wrapping, for the counts 0
to 6 that the row is selected with; the receiver tick after a matching scan tick is one. -/
def Obligations.RxFrameTickPushesOneSymbol : Prop :=
  (∀ (w : BitVec 4) (x : Nat), decodeRxsel w x = .rxFrameTick x ↔ w = 0b0110#4) ∧
  (∀ (s : State) (x : Nat) (sym : Symbol), sym = demod s.build.threshold s.prevSymbol s.prevSample x →
    s.payCount.toNat ≤ 6 →
    ∃ t : State, exec (.rxFrameTick x) s = .next t ∧
      t = { s with prevSample := x, prevSymbol := sym, payAcc := shift8 s.payAcc sym, payCount := t.payCount,
                   rxSync := false, rxValid := false } ∧
      t.payCount.toNat = s.payCount.toNat + 1) ∧
  ∀ (s t : State) (x : Nat) (i : Inputs), exec (.rxScanTick x) s = .next t → t.rxSync = true → i.rst = false →
    i.rxTick = true → (t.drive i).rxOperation = .rxFrameTick (t.drive i).sampleIn

/-- R141: RXSEL `0111`; the shifted byte goes to `pay_acc` and to `rx_byte` whatever it is, `rx_valid` is set, and the
scanner has control again with `scan_acc` as it was: the next receiver tick scans. -/
def Obligations.RxFrameLastDeliversTheByte : Prop :=
  (∀ (w : BitVec 4) (x : Nat), decodeRxsel w x = .rxFrameLast x ↔ w = 0b0111#4) ∧
  ∀ (s : State) (x : Nat) (sym : Symbol) (p : Byte),
    sym = demod s.build.threshold s.prevSymbol s.prevSample x → p = shift8 s.payAcc sym →
    ∃ t : State, exec (.rxFrameLast x) s = .next t ∧
      t = { s with prevSample := x, prevSymbol := sym, payAcc := p, rxByte := p, rxValid := true, rxSync := false,
                   payCount := 0#3, rxMode := .scan } ∧
      ∀ i : Inputs, i.rst = false → i.rxTick = true → (t.drive i).rxOperation = .rxScanTick (t.drive i).sampleIn

/-- R160: TXSEL `0x000x`; the line is driven to 0 and nothing else changes, so an idle transmitter stays not busy. -/
def Obligations.TxIdleHoldsTheLineLow : Prop :=
  (∀ (w : BitVec 6) (d : Byte), decodeTxsel w d = .txIdle ↔
    w.getLsbD 5 = false ∧ w.getLsbD 3 = false ∧ w.getLsbD 2 = false ∧ w.getLsbD 1 = false) ∧
  ∀ s : State, ∃ t : State, exec .txIdle s = .next t ∧ t = { s with lineOut := LOW } ∧
    (s.txState = .idle → t.txBusy = false)

/-- R161: TXSEL `0x100x`; the frame `{PREAMBLE, tx_data}` is captured for every byte, a tick in the same cycle sends
no bit, and `tx_busy` is 1 after it; no operation but a capture and the reset writes the frame. -/
def Obligations.TxCaptureBuildsTheFrame : Prop :=
  (∀ (w : BitVec 6) (d : Byte), decodeTxsel w d = .txCapture d ↔
    w.getLsbD 5 = false ∧ w.getLsbD 3 = true ∧ w.getLsbD 2 = false ∧ w.getLsbD 1 = false) ∧
  (∀ (s : State) (d : Byte), ∃ t : State, exec (.txCapture d) s = .next t ∧
    t = { s with txFrame := 0xB2#8 ++ d, txIndex := 0#5, txState := .armed, lineOut := LOW } ∧ t.txBusy = true) ∧
  ∀ (i : Instr) (s t : State), exec i s = .next t → t.txFrame = s.txFrame ∨ i = .txReset ∨ ∃ d : Byte, i = .txCapture d

/-- R162: TXSEL `00x01x`; no register changes, a request or not. -/
def Obligations.TxArmedWaitChangesNothing : Prop :=
  (∀ (w : BitVec 6) (d : Byte), decodeTxsel w d = .txArmedWait ↔
    w.getLsbD 5 = false ∧ w.getLsbD 4 = false ∧ w.getLsbD 2 = false ∧ w.getLsbD 1 = true) ∧
  ∀ s : State, exec .txArmedWait s = .next s

/-- R163: TXSEL `01x01x`; `tx_frame[15]` goes onto the line, and it is 1 for every frame a capture makes. -/
def Obligations.TxFirstBitSendsBitFifteen : Prop :=
  (∀ (w : BitVec 6) (d : Byte), decodeTxsel w d = .txFirstBit ↔
    w.getLsbD 5 = false ∧ w.getLsbD 4 = true ∧ w.getLsbD 2 = false ∧ w.getLsbD 1 = true) ∧
  (∀ s : State, ∃ t : State, exec .txFirstBit s = .next t ∧
    t = { s with lineOut := s.txFrame.getLsbD 15, txIndex := 1#5, txState := .send } ∧ t.txBusy = true) ∧
  ∀ d : Byte, (frameOf d).getLsbD 15 = true

/-- R164: TXSEL `00x10x`; no register changes, so the line holds the current bit. -/
def Obligations.TxSendWaitChangesNothing : Prop :=
  (∀ (w : BitVec 6) (d : Byte), decodeTxsel w d = .txSendWait ↔
    w.getLsbD 5 = false ∧ w.getLsbD 4 = false ∧ w.getLsbD 2 = true ∧ w.getLsbD 1 = false) ∧
  ∀ s : State, exec .txSendWait s = .next s

/-- R165: TXSEL `01x100`; `tx_frame[15 - tx_index]` goes onto the line and the index goes up by one, for the indexes up
to 15 that the row is selected with; the index 15 alone makes the next tick TX_END. -/
def Obligations.TxBitSendsTheNextBit : Prop :=
  (∀ (w : BitVec 6) (d : Byte), decodeTxsel w d = .txBit ↔
    w.getLsbD 5 = false ∧ w.getLsbD 4 = true ∧ w.getLsbD 2 = true ∧ w.getLsbD 1 = false ∧ w.getLsbD 0 = false) ∧
  ∀ s : State, s.txIndex.toNat ≤ 15 → ∃ t : State, exec .txBit s = .next t ∧
    t = { s with lineOut := s.txFrame.getLsbD (15 - s.txIndex.toNat), txIndex := t.txIndex } ∧
    t.txIndex.toNat = s.txIndex.toNat + 1 ∧ (t.txLast = true ↔ s.txIndex = 15#5)

/-- R166: TXSEL `01x101`; the line goes to 0 whatever it was, the transmitter is idle and not busy, and `tx_frame`
keeps the frame. -/
def Obligations.TxEndReturnsToIdle : Prop :=
  (∀ (w : BitVec 6) (d : Byte), decodeTxsel w d = .txEnd ↔
    w.getLsbD 5 = false ∧ w.getLsbD 4 = true ∧ w.getLsbD 2 = true ∧ w.getLsbD 1 = false ∧ w.getLsbD 0 = true) ∧
  ∀ s : State, ∃ t : State, exec .txEnd s = .next t ∧
    t = { s with lineOut := LOW, txState := .idle, txIndex := 0#5 } ∧ t.txBusy = false

/-- R167: TXSEL `0xx11x`, the reserved state: one cycle back to IDLE; no state reached from reset is in it. -/
def Obligations.TxRecoverReturnsToIdle : Prop :=
  (∀ (w : BitVec 6) (d : Byte), decodeTxsel w d = .txRecover ↔
    w.getLsbD 5 = false ∧ w.getLsbD 2 = true ∧ w.getLsbD 1 = true) ∧
  (∀ s : State, ∃ t : State, exec .txRecover s = .next t ∧
    t = { s with lineOut := LOW, txState := .idle, txIndex := 0#5 } ∧ t.txBusy = false) ∧
  ∀ s : State, Reachable s → s.txState ≠ .reserved

/-- R100: DMSEL = 1; from HIGH the decision is the strict comparison on integers, and it writes no register. That its result
is shown in the field `decided` is the model's DESIGN CHOICE, log entry 4. -/
def Obligations.DemodFromHighComparesStrictly : Prop :=
  (∀ (w : BitVec 1) (x : Nat), decodeDmsel w x = .demodFromHigh x ↔ w = 1#1) ∧
  (∀ (T p x : Nat), demod T HIGH p x = HIGH ↔ (x : Int) > (p : Int) - (T : Int)) ∧
  ∀ (s : State) (x : Nat), exec (.demodFromHigh x) s =
    .next { s with decided := some (demod s.build.threshold HIGH s.prevSample x) }

/-- R101: DMSEL = 0; from LOW the decision is the inclusive comparison on integers, and it writes no register. That its
result is shown in the field `decided` is the model's DESIGN CHOICE, log entry 4. -/
def Obligations.DemodFromLowComparesInclusively : Prop :=
  (∀ (w : BitVec 1) (x : Nat), decodeDmsel w x = .demodFromLow x ↔ w = 0#1) ∧
  (∀ (T p x : Nat), demod T LOW p x = HIGH ↔ (x : Int) ≥ (p : Int) + (T : Int)) ∧
  ∀ (s : State) (x : Nat), exec (.demodFromLow x) s =
    .next { s with decided := some (demod s.build.threshold LOW s.prevSample x) }

/-! ## Decode and encode -/

/-- A few words written out from R76 to R79 (the examples of R76 among them) decode to what they stand for. That a
table word's width 1, 4 or 6 names its selector, and that its operand port is 0, are the model's DESIGN CHOICE, log
entry 8. -/
def Obligations.WrittenWordsDecode : Prop :=
  decodeTableWord 4 0b1000 = some .rxReset ∧ decodeTableWord 4 0b0110 = some (.rxFrameTick 0) ∧
  decodeTableWord 6 0b010101 = some .txEnd ∧ decodeTableWord 6 0b000110 = some .txRecover ∧
  decodeTableWord 1 0b1 = some (.demodFromHigh 0) ∧
  decodeStimulus 10 0x200000 = .ok (lineInputs [.rst]) ∧
  decodeStimulus 10 0x100258 = .ok (lineInputs [.rx 600]) ∧
  decodeStimulus 10 0x0C1400 = .ok (lineInputs [.tx 5, .tt]) ∧
  decodeStimulus 1 0x0C01 = .ok (lineInputs [.rx 1, .tt])

/-- R80: for each value of each selector exactly one row of the table matches, the decoder gives that row's operation
for every operand (a sample of n bits; for TXSEL a byte), and no state with any inputs makes the core trap or stop. -/
def Obligations.EverySelectorValueIsOneOperation : Prop :=
  (∀ (f : Format) (w : Nat), w < 2 ^ formatWidth f →
    (opcodeRows.filter fun r => r.format = f ∧ rowCovers r w = true).length = 1) ∧
  (∀ (f : Format) (w n x : Nat), w < 2 ^ formatWidth f → x < (if f = .txsel then 2 ^ 8 else 2 ^ n) →
    ∃ i : Instr, decode n ⟨f, w, x⟩ = .ok i ∧ rowOf i ∈ opcodeRows ∧ (rowOf i).format = f ∧
      rowCovers (rowOf i) w = true) ∧
  ∀ s : State, ∃ t : State, step s = .next t

/-- R76: the stimulus word holds each input at the bits the table gives it, decoding gives the inputs back, each word
that fits is the word of the inputs it decodes to, and a wider number is rejected by name (DESIGN CHOICE, log entry 8). -/
def Obligations.StimulusWordRoundTrip : Prop :=
  (∀ (n : Nat) (i : Inputs), i.sampleIn < 2 ^ n →
    encodeStimulus n i < 2 ^ (n + 12) ∧
    (encodeStimulus n i).testBit (n + 11) = i.rst ∧
    (encodeStimulus n i).testBit (n + 10) = i.rxTick ∧
    (encodeStimulus n i).testBit (n + 9) = i.txTick ∧
    (encodeStimulus n i).testBit (n + 8) = i.txStart ∧
    encodeStimulus n i / 2 ^ n % 256 = i.txData.toNat ∧
    encodeStimulus n i % 2 ^ n = i.sampleIn ∧
    decodeStimulus n (encodeStimulus n i) = .ok i) ∧
  (∀ (n w : Nat), w < 2 ^ (n + 12) →
    ∃ i : Inputs, decodeStimulus n w = .ok i ∧ i.sampleIn < 2 ^ n ∧ encodeStimulus n i = w) ∧
  ∀ (n w : Nat), 2 ^ (n + 12) ≤ w → decodeStimulus n w = .error .stimulusTooWide

/-- Every well-formed operation's encoding decodes to it with its operand, and a cycle of a state in which the
encoding is placed performs it (R77 to R79). That don't-care bits are written as 0 and how an operation is placed are the
model's DESIGN CHOICE, log entries 9 and 8. -/
def Obligations.EncodedOperationIsSelected : Prop :=
  ∀ (s : State) (i : Instr), i.wellFormed s.build = true →
    decode s.build.sampleBits (encode i) = .ok i ∧ i ∈ (s.place (encode i)).operations

/-- R84: each item sets its own fields and the rest are 0; the items of one line add up, of two that name the same field
the later winning (DESIGN CHOICE, log entry 16); the pseudo-items expand as the table says. -/
def Obligations.StimulusItemsExpand : Prop :=
  lineInputs [.nop] = ⟨false, false, 0, false, false, 0⟩ ∧
  lineInputs [.rst] = ⟨true, false, 0, false, false, 0⟩ ∧
  (∀ x : Nat, lineInputs [.rx x] = ⟨false, true, x, false, false, 0⟩) ∧
  lineInputs [.tt] = ⟨false, false, 0, true, false, 0⟩ ∧
  (∀ b : Byte, lineInputs [.tx b] = ⟨false, false, 0, false, true, b⟩) ∧
  (∀ (items : List Item) (item : Item), lineInputs (items ++ [item]) = applyItem (lineInputs items) item) ∧
  (∀ (x : Nat) (b : Byte), lineInputs [.rx x, .tt] = ⟨false, true, x, true, false, 0⟩ ∧
    lineInputs [.tx b, .tt] = ⟨false, false, 0, true, true, b⟩) ∧
  (∀ n : Nat, (waitItem n).length = n ∧ ∀ l ∈ waitItem n, l = [.nop]) ∧
  (∀ b : Byte, (sendItem b).length = 18 ∧ (sendItem b).head? = some [.tx b] ∧ ∀ l ∈ (sendItem b).tail, l = [.tt]) ∧
  (∀ (low high : Nat) (bits : List Bool) (k : Nat),
    (rxBitsItem low high bits)[k]? = bits[k]?.map fun b => [.rx (if b then high else low)]) ∧
  ∀ (low high : Nat) (s : State), loopbackInputs low high s =
    ⟨false, true, if s.lineOut then high else low, true, false, 0⟩

/-! ## One cycle -/

/-- R13, R77 to R79: a cycle selects its operations from the registers and inputs at its start, runs the decision and
the receiver's operation and then the transmitter's, of the paths the instance holds, and uses its stimulus up. The
list of stimuli, the record of the decision that `beginCycle` empties, and that a path the instance lacks keeps its
registers are the model's DESIGN CHOICE, log entries 2, 4 and 6; the order of the operations is log entry 5. -/
def Obligations.StepRunsTheSelectedOperations : Prop :=
  ∀ (s s1 s2 s3 : State) (d r t : Instr),
    d = decodeDmsel (dmselWord s.prevSymbol) s.sampleIn →
    r = decodeRxsel (rxselWord s.inputs.rst s.inputs.rxTick s.rxMode (s.payCount == 7#3)) s.sampleIn →
    t = decodeTxsel (txselWord s.inputs.rst s.inputs.txTick s.inputs.txStart s.txState
      (decide (16 ≤ s.txIndex.toNat))) s.inputs.txData →
    (if s.build.paths.includeRx = true ∧ s.inputs.rxTick = true ∧ s.inputs.rst = false
      then exec d s.beginCycle = .next s1 else s1 = s.beginCycle) →
    (if s.build.paths.includeRx = true then exec r s1 = .next s2 else s2 = s1) →
    (if s.build.paths.includeTx = true then exec t s2 = .next s3 else s3 = s2) →
    step s = .next { s3 with stimuli := s.stimuli.tail, cycle := s.cycle + 1 }

/-- R210: no operation and no cycle faults or is refused, whatever the state and the inputs. The clauses on `stimuli`,
`cycle`, `decided` and an absent path's registers are the model's DESIGN CHOICE, log entries 2, 4 and 6. -/
def Obligations.EveryCycleCompletes : Prop :=
  (∀ (i : Instr) (s : State), ∃ t : State, exec i s = .next t) ∧
  ∀ s : State, ∃ t : State, step s = .next t ∧ t.build = s.build ∧ t.stimuli = s.stimuli.tail ∧
    t.cycle = s.cycle + 1 ∧
    (s.build.paths.includeRx = false → t.sameReceiver s ∧ t.decided = none) ∧
    (s.build.paths.includeTx = false → t.sameTransmitter s)

/-- R59: the operations of the two paths write in whatever order they are taken: for every selector value and every
state, transmitter before receiver gives what receiver before transmitter gives. -/
def Obligations.PathWritesCommute : Prop :=
  ∀ (s : State) (rxsel : BitVec 4) (dmsel : BitVec 1) (txsel : BitVec 6) (x : Nat) (d : Byte),
    execAll [decodeDmsel dmsel x, decodeRxsel rxsel x, decodeTxsel txsel d] s =
      execAll [decodeTxsel txsel d, decodeDmsel dmsel x, decodeRxsel rxsel x] s ∧
    execAll [decodeRxsel rxsel x, decodeTxsel txsel d] s = execAll [decodeTxsel txsel d, decodeRxsel rxsel x] s

/-- R102: every receiver tick, in either mode, writes the sample and the decided symbol back; the decision is the one
the Demodulator shows, and a cycle that is no receiver tick or is a reset makes none (R103). The field
`decided` is the model's DESIGN CHOICE, log entry 4. -/
def Obligations.EveryReceiverTickWritesBack : Prop :=
  ∀ s t : State, s.build.paths.includeRx = true → step s = .next t →
    (s.inputs.rxTick = true ∧ s.inputs.rst = false →
      t.prevSample = s.inputs.sampleIn % 2 ^ s.build.sampleBits ∧
      t.prevSymbol =
        demod s.build.threshold s.prevSymbol s.prevSample (s.inputs.sampleIn % 2 ^ s.build.sampleBits) ∧
      t.decided = some t.prevSymbol) ∧
    (¬ (s.inputs.rxTick = true ∧ s.inputs.rst = false) → t.decided = none)

/-- R28, R29: after each cycle of a receiver, `rx_sync` is 1 exactly if the cycle was a scanning tick whose shifted
value is the preamble, and `rx_valid` exactly if it was the tick of payload symbol 8; the ports show both, and both are 0
after reset. -/
def Obligations.StrobesMarkMatchAndByte : Prop :=
  (∀ s t : State, s.build.paths.includeRx = true → step s = .next t →
    (t.rxSync = true ↔ s.inputs.rst = false ∧ s.inputs.rxTick = true ∧ s.rxMode = .scan ∧
      shift8 s.scanAcc (s.symbolOf s.sampleIn) = 0xB2#8) ∧
    (t.rxValid = true ↔ s.inputs.rst = false ∧ s.inputs.rxTick = true ∧ s.rxMode = .frame ∧ s.payCount = 7#3) ∧
    t.rxPorts.map (·.rxSync) = some t.rxSync ∧ t.rxPorts.map (·.rxValid) = some t.rxValid) ∧
  ∀ b : Build, (State.resetOf b).rxSync = false ∧ (State.resetOf b).rxValid = false

/-- R60: in the cycle that shows `rx_valid` = 1, `rx_byte` is the byte just assembled; it changes in no other cycle but a
reset. -/
def Obligations.ByteIsNewWhenValidAndStickyElse : Prop :=
  ∀ s t : State, s.build.paths.includeRx = true → step s = .next t →
    (t.rxValid = true → t.rxByte = shift8 s.payAcc (s.symbolOf s.sampleIn) ∧ t.rxByte = t.payAcc) ∧
    (t.rxValid = false → s.inputs.rst = false → t.rxByte = s.rxByte) ∧
    (s.inputs.rst = true → t.rxByte = 0x00#8)

/-- R122: `scan_acc` changes only by the shift of a scanning tick and by reset. -/
def Obligations.ScanAccFreeRuns : Prop :=
  ∀ s t : State, s.build.paths.includeRx = true → step s = .next t →
    t.scanAcc = if s.inputs.rst then 0x00#8
      else if s.inputs.rxTick = true ∧ s.rxMode = .scan then shift8 s.scanAcc (s.symbolOf s.sampleIn)
      else s.scanAcc

/-- R144, R234: a frame ends only at its 8th receiver tick or by reset; in particular a cycle without a tick leaves it
where it is. -/
def Obligations.FrameEndsOnlyAtEighthTickOrReset : Prop :=
  ∀ s t : State, s.build.paths.includeRx = true → s.rxMode = .frame → step s = .next t →
    (t.rxMode = .scan ↔ s.inputs.rst = true ∨ (s.inputs.rxTick = true ∧ s.payCount = 7#3)) ∧
    (s.inputs.rst = false → s.inputs.rxTick = false →
      t.payCount = s.payCount ∧ t.payAcc = s.payAcc ∧ t.scanAcc = s.scanAcc ∧ t.rxByte = s.rxByte)

/-- R232: a cycle with `rst` = 1 leaves both paths at their reset values whatever the other inputs are and whatever the
registers held, and the outputs in that cycle still show the state it started in. -/
def Obligations.ResetOverridesEveryInput : Prop :=
  ∀ (s : State) (i : Inputs), i.rst = true →
    ∃ t : State, step (s.drive i) = .next t ∧
      (s.build.paths.includeRx = true → t.sameReceiver (State.resetOf s.build)) ∧
      (s.build.paths.includeTx = true → t.sameTransmitter (State.resetOf s.build)) ∧
      (s.drive i).rxPorts = s.rxPorts ∧ (s.drive i).txPorts = s.txPorts ∧
      (t.rxPorts = some ⟨false, false, false, false, 0x00#8⟩ ∨ s.build.paths.includeRx = false) ∧
      (t.txPorts = some ⟨LOW, false⟩ ∨ s.build.paths.includeTx = false)

/-- R168: a request is taken in an idle cycle, and in any other cycle the inputs `tx_start` and `tx_data` change nothing
at all. -/
def Obligations.RequestTakenOnlyWhenIdle : Prop :=
  (∀ (s : State) (i : Inputs) (start : Bool) (data : Byte), s.txState ≠ .idle →
    step (s.drive i) = step (s.drive { i with txStart := start, txData := data })) ∧
  ∀ (s : State) (i : Inputs), s.build.paths.includeTx = true → s.txState = .idle → i.rst = false →
    i.txStart = true →
    ∃ t : State, step (s.drive i) = .next t ∧ t.txState = .armed ∧ t.txFrame = 0xB2#8 ++ i.txData ∧
      t.txIndex = 0#5 ∧ t.lineOut = LOW

/-- R57: inputs that agree where the rule says an input has an effect give the same cycle. -/
def Obligations.OnlyEffectiveInputsMatter : Prop :=
  ∀ (s : State) (i j : Inputs), i.rst = j.rst →
    (i.rst = false → i.rxTick = j.rxTick ∧
      (i.rxTick = true → i.sampleIn % 2 ^ s.build.sampleBits = j.sampleIn % 2 ^ s.build.sampleBits) ∧
      (s.txState = .armed ∨ s.txState = .send → i.txTick = j.txTick) ∧
      (s.txState = .idle → i.txStart = j.txStart ∧ (i.txStart = true → i.txData = j.txData))) →
    step (s.drive i) = step (s.drive j)

/-- R4, R64: what a cycle leaves in one path's registers depends on that path's registers and inputs alone. -/
def Obligations.PathsAreIndependent : Prop :=
  ∀ s s' t t' : State, s.build = s'.build → step s = .next t → step s' = .next t' →
    (s.sameReceiver s' → s.inputs.rst = s'.inputs.rst → s.inputs.rxTick = s'.inputs.rxTick →
      s.inputs.sampleIn = s'.inputs.sampleIn → t.sameReceiver t') ∧
    (s.sameTransmitter s' → s.inputs.rst = s'.inputs.rst → s.inputs.txTick = s'.inputs.txTick →
      s.inputs.txStart = s'.inputs.txStart → s.inputs.txData = s'.inputs.txData → t.sameTransmitter t')

/-- The ports show registers and what the registers give, whatever the inputs (30_encoding.md section 2, R38). -/
def Obligations.OutputsShowRegistersAlone : Prop :=
  ∀ (s : State) (i : Inputs),
    (s.drive i).rxPorts = s.rxPorts ∧ (s.drive i).txPorts = s.txPorts ∧
    (s.build.paths.includeRx = true → s.rxPorts = some
      { rxSymbol := s.prevSymbol, rxFraming := decide (s.rxMode = .frame), rxSync := s.rxSync,
        rxValid := s.rxValid, rxByte := s.rxByte }) ∧
    (s.build.paths.includeTx = true → s.txPorts = some
      { lineOut := s.lineOut, txBusy := decide (s.txState ≠ .idle) })

/-! ## Invariants -/

/-- R233 and the registers' reset values: the two reset operations, from any state of a build, leave the registers of
`State.resetOf`, and the machine right after reset is legal and coherent, for every legal build. That the
machine starts there and its parameters are legal but free is log entries 7 and 1. -/
def Obligations.ResetStateIsLegal : Prop :=
  (∀ (s : State), ∃ t : State, execAll [.rxReset, .txReset] s = .next t ∧ t.sameCore (State.resetOf s.build)) ∧
  (∀ b : Build, b.wellFormed = true → (State.resetOf b).Legal ∧ (State.resetOf b).Coherent) ∧
  State.reset.Legal ∧ State.reset.Coherent

/-- R40: every step keeps the invariants, from every state that has them, so every state reached from reset has
them. `State.Legal` adds to the seven of R40 that the parameters are legal (R9) and `prev_sample` has its width (R21). -/
def Obligations.EveryStepKeepsLegal : Prop :=
  (∀ s t : State, s.Legal → step s = .next t → t.Legal) ∧ ∀ s : State, Reachable s → s.Legal

/-- Every step keeps what ties the accumulators, the frame register and the line to the modes (R60, R102, R121, R124,
R145, R161, R163, R165). `State.Coherent` is the model's own collection of them. -/
def Obligations.EveryStepKeepsCoherent : Prop :=
  ∀ s t : State, s.Legal → s.Coherent → step s = .next t → t.Coherent

/-! ## The Demodulator -/

/-- R104: the integer comparisons lie in the ranges the rule gives, and the two unsigned forms give the same symbol. -/
def Obligations.ComparisonsDoNotWrap : Prop :=
  ∀ (n T p x : Nat), T < 2 ^ n → p < 2 ^ n → x < 2 ^ n →
    (-((2 : Int) ^ n - 1) ≤ (p : Int) - T ∧ (p : Int) - T ≤ (2 : Int) ^ n - 1) ∧
    (0 ≤ (p : Int) + T ∧ (p : Int) + T ≤ (2 : Int) ^ (n + 1) - 2) ∧
    x + T < 2 ^ (n + 1) ∧ p + T < 2 ^ (n + 1) ∧
    demod T HIGH p x = decide (x + T > p) ∧ demod T LOW p x = decide (x ≥ p + T)

/-- R10: with `THRESHOLD` = 0 a constant line toggles: each symbol is the opposite of the one before. -/
def Obligations.ZeroThresholdToggles : Prop :=
  ∀ (sym : Symbol) (p n k : Nat), k < n →
    (symbolsOf 0 sym p (List.replicate n p))[k]? = some (if k % 2 = 0 then !sym else sym)

/-- R107: on a noise-free two-level line the symbol holds on a constant level, rises and falls with the line, equals
the level from the first change on, and does not see a change below `THRESHOLD`; from reset an idle line at `THRESHOLD`
or above reads HIGH. -/
def Obligations.TwoLevelLineIsFollowed : Prop :=
  ∀ (T low high : Nat), 1 ≤ T → low + T ≤ high →
    (∀ (sym : Symbol) (p : Nat), demod T sym p p = sym) ∧
    (∀ sym : Symbol, demod T sym low high = HIGH) ∧
    (∀ sym : Symbol, demod T sym high low = LOW) ∧
    (∀ (sym : Symbol) (level : Level) (levels : List Level) (k : Nat) (v : Level), levels[k]? = some v →
      (∃ j ≤ k, (level :: levels)[j]? ≠ levels[j]?) →
      (symbolsOf T sym (idealSample low high level) (levels.map (idealSample low high)))[k]? = some v) ∧
    (∀ n : Nat, T ≤ low → symbolsOf T LOW 0 (List.replicate n low) = List.replicate n HIGH) ∧
    (∀ p x : Nat, x < p + T → demod T LOW p x = LOW) ∧
    (∀ p x : Nat, p < x + T → demod T HIGH p x = HIGH)

/-! ## Runs: the receiver -/

/-- R125: over any cycles without a reset, `scan_acc` is what the scanned symbols, and they alone, shift into it: its
start value counts as the symbols before. -/
def Obligations.ScanAccHoldsTheLastScannedSymbols : Prop :=
  ∀ (ins : List Inputs) (s : State), s.build.paths.includeRx = true → noReset ins = true →
    ∃ t : State, runInputs ins s = .next t ∧ t.scanAcc = (scannedSymbols ins s).foldl shift8 s.scanAcc

/-- R142: from the hand-over to the Byte Framer, over any cycles without a reset, fewer than 8 receiver ticks leave it in
control with its count, and the 8th delivers the byte whose bit 8 - k is the symbol of the k-th tick, whatever `pay_acc`
held before (R145); `scan_acc` keeps its value throughout (R124). -/
def Obligations.FramerAssemblesTheByte : Prop :=
  ∀ (ins : List Inputs) (s : State) (xs : List Nat) (syms : List Symbol),
    s.build.paths.includeRx = true → noReset ins = true → s.rxMode = .frame → s.payCount = 0#3 →
    xs = tickSamples s.build.sampleBits ins →
    syms = symbolsOf s.build.threshold s.prevSymbol s.prevSample xs →
    (xs.length < 8 →
      ∃ t : State, runInputs ins s = .next t ∧ t.rxMode = .frame ∧ t.payCount.toNat = xs.length ∧
        t.rxByte = s.rxByte ∧ t.scanAcc = s.scanAcc ∧ (ins ≠ [] → t.rxValid = false ∧ t.rxSync = false)) ∧
    (xs.length = 8 → (ins.getLast?.map (·.rxTick)) = some true →
      ∃ t : State, runInputs ins s = .next t ∧ t.rxMode = .scan ∧ t.payCount = 0#3 ∧ t.rxValid = true ∧
        t.rxSync = false ∧ t.scanAcc = s.scanAcc ∧
        ∀ k : Nat, 1 ≤ k → k ≤ 8 → syms[k - 1]? = some (t.rxByte.getLsbD (8 - k)))

/-- R126, R127: from any eight scanned symbols, a real preamble matches at its 8th symbol, and before that only at its
2nd and only if the last six scanned were `101100`; the four progressions of R126; after a frame the six symbols `110010`
match, and LOW symbols give `64 C8 90 20 40 80 00` and never match. -/
def Obligations.PreambleMatchesEarlyInOneCaseOnly : Prop :=
  (∀ acc : Byte, [true, false, true, true, false, false, true, false].foldl shift8 acc = 0xB2#8) ∧
  (∀ (acc : Byte) (k : Fin 8), 1 ≤ k.val →
    (([true, false, true, true, false, false, true, false].take k.val).foldl shift8 acc = 0xB2#8 ↔
      k.val = 2 ∧ acc.extractLsb' 0 6 = 0b101100#6)) ∧
  (([true, false, true, true, false, false, true, false].scanl shift8 0x00#8).map (·.toNat) =
    [0x00, 0x01, 0x02, 0x05, 0x0B, 0x16, 0x2C, 0x59, 0xB2]) ∧
  (([true, false, true, true, false, false, true, false].scanl shift8 0xFF#8).map (·.toNat) =
    [0xFF, 0xFF, 0xFE, 0xFD, 0xFB, 0xF6, 0xEC, 0xD9, 0xB2]) ∧
  (([true, false, true, true, false, false, true, false].scanl shift8 0xB2#8).map (·.toNat) =
    [0xB2, 0x65, 0xCA, 0x95, 0x2B, 0x56, 0xAC, 0x59, 0xB2]) ∧
  (([true, false, true, true, false, false, true, false].scanl shift8 0x64#8).map (·.toNat) =
    [0x64, 0xC9, 0x92, 0x25, 0x4B, 0x96, 0x2C, 0x59, 0xB2]) ∧
  ([true, true, false, false, true, false].foldl shift8 0xB2#8 = 0xB2#8) ∧
  (((List.replicate 7 false).scanl shift8 0xB2#8).map (·.toNat) =
    [0xB2, 0x64, 0xC8, 0x90, 0x20, 0x40, 0x80, 0x00]) ∧
  ∀ n : Nat, 1 ≤ n → (List.replicate n false).foldl shift8 0xB2#8 ≠ 0xB2#8

/-! ## Runs: the transmitter, waiting, and the link -/

/-- R169: from a capture, over any cycles without a reset and whatever requests come, k ticks with 1 ≤ k ≤ 16 leave frame
bit 16 - k on the line, no tick leaves it at 0, the transmitter is busy throughout, and the cycle of the 17th tick leaves
it idle with the line at 0 and the frame register as it was. -/
def Obligations.TransmitterDrivesTheWholeFrame : Prop :=
  ∀ (ins : List Inputs) (s : State), s.build.paths.includeTx = true → noReset ins = true → s.txState = .armed →
    s.txIndex = 0#5 → s.lineOut = LOW → txTicks ins ≤ 16 →
    ∃ t : State, runInputs ins s = .next t ∧ t.txFrame = s.txFrame ∧ t.txBusy = true ∧
      t.txIndex.toNat = txTicks ins ∧
      (txTicks ins = 0 → t.txState = .armed ∧ t.lineOut = LOW) ∧
      (1 ≤ txTicks ins → t.txState = .send ∧ t.lineOut = s.txFrame.getLsbD (16 - txTicks ins)) ∧
      ∀ i : Inputs, txTicks ins = 16 → i.rst = false → i.txTick = true →
        ∃ u : State, runInputs (ins ++ [i]) s = .next u ∧ u.txState = .idle ∧ u.lineOut = LOW ∧ u.txIndex = 0#5 ∧
          u.txFrame = s.txFrame ∧ u.txBusy = false

/-- R75, R218: cycles with no tick, no request and no reset, any number of them, change no register but the strobes,
which fall. That an instance without a receiver keeps those too is the model's DESIGN CHOICE, log entry 6. -/
def Obligations.QuietCyclesChangeOnlyStrobes : Prop :=
  ∀ (ins : List Inputs) (s : State), s.Legal →
    (∀ i ∈ ins, i.rst = false ∧ i.rxTick = false ∧ i.txTick = false ∧ i.txStart = false) → ins ≠ [] →
    ∃ t : State, runInputs ins s = .next t ∧
      (s.build.paths.includeRx = true → t.sameCore { s with rxSync := false, rxValid := false }) ∧
      (s.build.paths.includeRx = false → t.sameCore s)

/-- R202 in the loopback of R193, with any waits between the shared ticks (R75): from any state whose transmitter has just
driven the first bit of the frame of `c` and whose receiver is scanning, with the line's idle sample read last and the last
six scanned symbols not `101100`, cycles that hold sixteen ticks and no request give exactly one `rx_sync`, after the 8th
tick, and exactly one `rx_valid`, after the 16th, with `rx_byte` = `c`; the transmitter is then idle. -/
def Obligations.LoopbackRoundTrip : Prop :=
  ∀ (s : State) (low high : Nat) (c : Byte) (cycles : List LoopCycle), s.build.wellFormed = true →
    s.build.paths = .both → idealChannel s.build low high = true → s.txState = .send → s.txIndex = 1#5 →
    s.txFrame = 0xB2#8 ++ c → s.lineOut = HIGH → s.rxMode = .scan → s.prevSample = low →
    s.scanAcc.extractLsb' 0 6 ≠ 0b101100#6 → cycles.count .tick = 16 → (∀ b : Byte, LoopCycle.request b ∉ cycles) →
    let states := loopbackTrace low high cycles s
    states.length = cycles.length ∧
      (∀ k : Nat, states[k]?.map (·.rxSync) = some true ↔
        cycles[k]? = some .tick ∧ (cycles.take (k + 1)).count .tick = 8) ∧
      (∀ k : Nat, states[k]?.map (·.rxValid) = some true ↔
        cycles[k]? = some .tick ∧ (cycles.take (k + 1)).count .tick = 16) ∧
      states.getLast?.map (fun t => (t.rxByte, t.txState, t.lineOut, t.scanAcc)) = some (c, .idle, LOW, 0xB2#8)

/-- R202 after a reset of both ends with the line idle: for every payload, a request and then seventeen loopback cycles
give exactly one `rx_sync` and exactly one `rx_valid`, with `rx_byte` = the payload. -/
def Obligations.LoopbackRoundTripAfterReset : Prop :=
  ∀ (b : Build) (low high : Nat) (c : Byte), b.wellFormed = true → b.paths = .both →
    idealChannel b low high = true →
    let states := loopbackTrace low high (.request c :: List.replicate 17 .tick) (State.resetOf b)
    states.length = 18 ∧ (states.filter (·.rxSync)).length = 1 ∧ (states.filter (·.rxValid)).length = 1 ∧
      states[17]?.map (fun t => (t.rxValid, t.rxByte)) = some (true, c)

/-! ## The collaborators -/

/-- R194: the digits `'0'` to `'9'` ask for the channels 0 to 9 and no other character asks for a transmission. -/
def Obligations.DigitsMapToChannels : Prop :=
  ∀ (code : Nat) (i : Inputs),
    (0x30 ≤ code ∧ code ≤ 0x39 → ∃ channel : Byte, channel.toNat = code - 0x30 ∧ channel.toNat ≤ 9 ∧
      channelOfChar code = some channel ∧ hostInputs code i = { i with txStart := true, txData := channel }) ∧
    (¬ (0x30 ≤ code ∧ code ≤ 0x39) → channelOfChar code = none ∧ hostInputs code i = i)

/-- R197: the gate is OPEN exactly when the last decoded channel is the tuned one or 0. -/
def Obligations.GateOpensOnMatchOrZero : Prop :=
  ∀ c : Controller, c.gate = .opened ↔ c.lastDecoded.toNat = c.tuned ∨ c.lastDecoded.toNat = 0

/-- R198, R199: the toggle cycles the Tuned Channel through 1 to 9, changes nothing else, and the gate follows at
once. -/
def Obligations.ToggleCyclesTheNineChannels : Prop :=
  ∀ c : Controller, 1 ≤ c.tuned → c.tuned ≤ 9 →
    c.toggle.lastDecoded = c.lastDecoded ∧ 1 ≤ c.toggle.tuned ∧ c.toggle.tuned ≤ 9 ∧
    (c.tuned < 9 → c.toggle.tuned = c.tuned + 1) ∧ (c.tuned = 9 → c.toggle.tuned = 1) ∧
    Controller.toggle^[9] c = c ∧ c.toggle.gate = gateOf c.toggle.tuned c.lastDecoded

/-- R196, R198: a node's controller stores `rx_byte` in each cycle that shows `rx_valid` = 1 and in no other, and a
toggle changes nothing of the core. That the store comes before the toggle, and
that a cycle takes none or one toggle, are the model's DESIGN CHOICE, log entry 13; that a reset of the core leaves the
stored byte as it is, is DESIGN CHOICE, log entry 17. -/
def Obligations.ControllerFollowsTheCore : Prop :=
  ∀ (n : Node) (i : Inputs) (toggled : Bool), n.core.build.paths.includeRx = true →
    ∃ t : State, step (n.core.drive i) = .next t ∧ ∃ m : Node, n.cycle i toggled = .next m ∧ m.core = t ∧
      m.controller.lastDecoded = (if n.core.rxValid then n.core.rxByte else n.controller.lastDecoded) ∧
      m.controller.tuned = (if toggled then n.controller.toggle.tuned else n.controller.tuned)

/-- R170, R203: in a cycle of a link the transmitter's next state is its own step, whatever the receivers are, and
each receiver's is its own cycle on what the channel makes of the line for it, whichever ends the environment resets. The
shared tick, that the transmitter's own receiver gets none, and that each receiver takes none or one toggle in a cycle are
the model's DESIGN CHOICE, log entry 13. -/
def Obligations.LinkNodesStepOnTheirOwn : Prop :=
  ∀ (channel : Nat → Level → Nat) (tick : Bool) (request : Option Byte) (reset : Bool) (resets toggles : Nat → Bool)
    (l : Link),
    ∃ l' : Link, l.cycle channel tick request reset resets toggles = .next l' ∧
      step (l.transmitter.drive ⟨reset, false, 0, tick, request.isSome, request.getD 0⟩) = .next l'.transmitter ∧
      l'.receivers.length = l.receivers.length ∧
      ∀ (k : Nat) (n : Node), l.receivers[k]? = some n → ∃ m : Node, l'.receivers[k]? = some m ∧
        n.cycle ⟨resets k, tick, channel k l.transmitter.lineOut, false, false, 0⟩ (toggles k) = .next m

/-- R202 for frames one after another, in the loopback of R193 with any waits between the shared ticks: from any state whose
transmitter is idle and whose receiver is scanning, with the symbol of the next idle sample neither completing the preamble
nor making the last six symbols `101100`, requests that each come before at least seventeen ticks give one `rx_sync` for
each and deliver exactly their payloads, in order; seventeen ticks are the back-to-back case (R169). The state after reset
is such a state, on every idle line. -/
def Obligations.LoopbackFramesOneAfterAnother : Prop :=
  (∀ (s : State) (low high : Nat) (frames : List (Byte × List LoopCycle)), s.build.wellFormed = true →
    s.build.paths = .both → idealChannel s.build low high = true → s.txState = .idle → s.rxMode = .scan →
    shift8 s.scanAcc (s.symbolOf low) ≠ 0xB2#8 →
    (shift8 s.scanAcc (s.symbolOf low)).extractLsb' 0 6 ≠ 0b101100#6 →
    (∀ f ∈ frames, 17 ≤ f.2.count .tick ∧ ∀ b : Byte, LoopCycle.request b ∉ f.2) →
    let cycles := frames.flatMap fun f => .request f.1 :: f.2
    let states := loopbackTrace low high cycles s
    states.length = cycles.length ∧
      (states.filter (·.rxSync)).length = frames.length ∧
      (states.filter (·.rxValid)).map (·.rxByte) = frames.map (·.1)) ∧
  ∀ (b : Build) (low : Nat),
    (State.resetOf b).txState = .idle ∧ (State.resetOf b).rxMode = .scan ∧
    shift8 (State.resetOf b).scanAcc ((State.resetOf b).symbolOf low) ≠ 0xB2#8 ∧
    (shift8 (State.resetOf b).scanAcc ((State.resetOf b).symbolOf low)).extractLsb' 0 6 ≠ 0b101100#6
end

