-- ==== Sys2Proof/Laws/State.lean ====
section
/-! SUPPORT. What each named update of State does to each field: one lemma per field per update, and what the
updates of registers leave of the inputs. -/

namespace Sys2Proof.Machine

variable (s : State)

section setStrobes
variable (sync valid : Bool)
@[simp] theorem setStrobes_build : (s.setStrobes sync valid).build = s.build := rfl
@[simp] theorem setStrobes_prevSample : (s.setStrobes sync valid).prevSample = s.prevSample := rfl
@[simp] theorem setStrobes_prevSymbol : (s.setStrobes sync valid).prevSymbol = s.prevSymbol := rfl
@[simp] theorem setStrobes_scanAcc : (s.setStrobes sync valid).scanAcc = s.scanAcc := rfl
@[simp] theorem setStrobes_rxMode : (s.setStrobes sync valid).rxMode = s.rxMode := rfl
@[simp] theorem setStrobes_payAcc : (s.setStrobes sync valid).payAcc = s.payAcc := rfl
@[simp] theorem setStrobes_payCount : (s.setStrobes sync valid).payCount = s.payCount := rfl
@[simp] theorem setStrobes_rxByte : (s.setStrobes sync valid).rxByte = s.rxByte := rfl
@[simp] theorem setStrobes_rxSync : (s.setStrobes sync valid).rxSync = sync := rfl
@[simp] theorem setStrobes_rxValid : (s.setStrobes sync valid).rxValid = valid := rfl
@[simp] theorem setStrobes_txState : (s.setStrobes sync valid).txState = s.txState := rfl
@[simp] theorem setStrobes_txFrame : (s.setStrobes sync valid).txFrame = s.txFrame := rfl
@[simp] theorem setStrobes_txIndex : (s.setStrobes sync valid).txIndex = s.txIndex := rfl
@[simp] theorem setStrobes_lineOut : (s.setStrobes sync valid).lineOut = s.lineOut := rfl
@[simp] theorem setStrobes_decided : (s.setStrobes sync valid).decided = s.decided := rfl
@[simp] theorem setStrobes_stimuli : (s.setStrobes sync valid).stimuli = s.stimuli := rfl
@[simp] theorem setStrobes_cycle : (s.setStrobes sync valid).cycle = s.cycle := rfl
@[simp] theorem setStrobes_inputs : (s.setStrobes sync valid).inputs = s.inputs := rfl
@[simp] theorem setStrobes_symbolOf (x : Nat) : (s.setStrobes sync valid).symbolOf x = s.symbolOf x := rfl
@[simp] theorem setStrobes_sampleIn : (s.setStrobes sync valid).sampleIn = s.sampleIn := rfl
@[simp] theorem setStrobes_rxLast : (s.setStrobes sync valid).rxLast = s.rxLast := rfl
@[simp] theorem setStrobes_txLast : (s.setStrobes sync valid).txLast = s.txLast := rfl
end setStrobes

section drive
variable (i : Inputs)
@[simp] theorem drive_build : (s.drive i).build = s.build := rfl
@[simp] theorem drive_prevSample : (s.drive i).prevSample = s.prevSample := rfl
@[simp] theorem drive_prevSymbol : (s.drive i).prevSymbol = s.prevSymbol := rfl
@[simp] theorem drive_scanAcc : (s.drive i).scanAcc = s.scanAcc := rfl
@[simp] theorem drive_rxMode : (s.drive i).rxMode = s.rxMode := rfl
@[simp] theorem drive_payAcc : (s.drive i).payAcc = s.payAcc := rfl
@[simp] theorem drive_payCount : (s.drive i).payCount = s.payCount := rfl
@[simp] theorem drive_rxByte : (s.drive i).rxByte = s.rxByte := rfl
@[simp] theorem drive_rxSync : (s.drive i).rxSync = s.rxSync := rfl
@[simp] theorem drive_rxValid : (s.drive i).rxValid = s.rxValid := rfl
@[simp] theorem drive_txState : (s.drive i).txState = s.txState := rfl
@[simp] theorem drive_txFrame : (s.drive i).txFrame = s.txFrame := rfl
@[simp] theorem drive_txIndex : (s.drive i).txIndex = s.txIndex := rfl
@[simp] theorem drive_lineOut : (s.drive i).lineOut = s.lineOut := rfl
@[simp] theorem drive_decided : (s.drive i).decided = s.decided := rfl
@[simp] theorem drive_stimuli : (s.drive i).stimuli = i :: s.stimuli := rfl
@[simp] theorem drive_cycle : (s.drive i).cycle = s.cycle := rfl
@[simp] theorem drive_symbolOf (x : Nat) : (s.drive i).symbolOf x = s.symbolOf x := rfl
@[simp] theorem drive_rxLast : (s.drive i).rxLast = s.rxLast := rfl
@[simp] theorem drive_txLast : (s.drive i).txLast = s.txLast := rfl
end drive

section showDecision
variable (symbol : Symbol)
@[simp] theorem showDecision_build : (s.showDecision symbol).build = s.build := rfl
@[simp] theorem showDecision_prevSample : (s.showDecision symbol).prevSample = s.prevSample := rfl
@[simp] theorem showDecision_prevSymbol : (s.showDecision symbol).prevSymbol = s.prevSymbol := rfl
@[simp] theorem showDecision_scanAcc : (s.showDecision symbol).scanAcc = s.scanAcc := rfl
@[simp] theorem showDecision_rxMode : (s.showDecision symbol).rxMode = s.rxMode := rfl
@[simp] theorem showDecision_payAcc : (s.showDecision symbol).payAcc = s.payAcc := rfl
@[simp] theorem showDecision_payCount : (s.showDecision symbol).payCount = s.payCount := rfl
@[simp] theorem showDecision_rxByte : (s.showDecision symbol).rxByte = s.rxByte := rfl
@[simp] theorem showDecision_rxSync : (s.showDecision symbol).rxSync = s.rxSync := rfl
@[simp] theorem showDecision_rxValid : (s.showDecision symbol).rxValid = s.rxValid := rfl
@[simp] theorem showDecision_txState : (s.showDecision symbol).txState = s.txState := rfl
@[simp] theorem showDecision_txFrame : (s.showDecision symbol).txFrame = s.txFrame := rfl
@[simp] theorem showDecision_txIndex : (s.showDecision symbol).txIndex = s.txIndex := rfl
@[simp] theorem showDecision_lineOut : (s.showDecision symbol).lineOut = s.lineOut := rfl
@[simp] theorem showDecision_decided : (s.showDecision symbol).decided = some symbol := rfl
@[simp] theorem showDecision_stimuli : (s.showDecision symbol).stimuli = s.stimuli := rfl
@[simp] theorem showDecision_cycle : (s.showDecision symbol).cycle = s.cycle := rfl
@[simp] theorem showDecision_inputs : (s.showDecision symbol).inputs = s.inputs := rfl
@[simp] theorem showDecision_symbolOf (x : Nat) : (s.showDecision symbol).symbolOf x = s.symbolOf x := rfl
@[simp] theorem showDecision_sampleIn : (s.showDecision symbol).sampleIn = s.sampleIn := rfl
@[simp] theorem showDecision_rxLast : (s.showDecision symbol).rxLast = s.rxLast := rfl
@[simp] theorem showDecision_txLast : (s.showDecision symbol).txLast = s.txLast := rfl
end showDecision

section demodTick
variable (sample : Nat)
@[simp] theorem demodTick_build : (s.demodTick sample).build = s.build := rfl
@[simp] theorem demodTick_prevSample : (s.demodTick sample).prevSample = sample := rfl
@[simp] theorem demodTick_prevSymbol : (s.demodTick sample).prevSymbol = s.symbolOf sample := rfl
@[simp] theorem demodTick_scanAcc : (s.demodTick sample).scanAcc = s.scanAcc := rfl
@[simp] theorem demodTick_rxMode : (s.demodTick sample).rxMode = s.rxMode := rfl
@[simp] theorem demodTick_payAcc : (s.demodTick sample).payAcc = s.payAcc := rfl
@[simp] theorem demodTick_payCount : (s.demodTick sample).payCount = s.payCount := rfl
@[simp] theorem demodTick_rxByte : (s.demodTick sample).rxByte = s.rxByte := rfl
@[simp] theorem demodTick_rxSync : (s.demodTick sample).rxSync = s.rxSync := rfl
@[simp] theorem demodTick_rxValid : (s.demodTick sample).rxValid = s.rxValid := rfl
@[simp] theorem demodTick_txState : (s.demodTick sample).txState = s.txState := rfl
@[simp] theorem demodTick_txFrame : (s.demodTick sample).txFrame = s.txFrame := rfl
@[simp] theorem demodTick_txIndex : (s.demodTick sample).txIndex = s.txIndex := rfl
@[simp] theorem demodTick_lineOut : (s.demodTick sample).lineOut = s.lineOut := rfl
@[simp] theorem demodTick_decided : (s.demodTick sample).decided = s.decided := rfl
@[simp] theorem demodTick_stimuli : (s.demodTick sample).stimuli = s.stimuli := rfl
@[simp] theorem demodTick_cycle : (s.demodTick sample).cycle = s.cycle := rfl
@[simp] theorem demodTick_inputs : (s.demodTick sample).inputs = s.inputs := rfl
@[simp] theorem demodTick_sampleIn : (s.demodTick sample).sampleIn = s.sampleIn := rfl
@[simp] theorem demodTick_rxLast : (s.demodTick sample).rxLast = s.rxLast := rfl
@[simp] theorem demodTick_txLast : (s.demodTick sample).txLast = s.txLast := rfl
end demodTick

section setScanAcc
variable (acc : Byte)
@[simp] theorem setScanAcc_build : (s.setScanAcc acc).build = s.build := rfl
@[simp] theorem setScanAcc_prevSample : (s.setScanAcc acc).prevSample = s.prevSample := rfl
@[simp] theorem setScanAcc_prevSymbol : (s.setScanAcc acc).prevSymbol = s.prevSymbol := rfl
@[simp] theorem setScanAcc_scanAcc : (s.setScanAcc acc).scanAcc = acc := rfl
@[simp] theorem setScanAcc_rxMode : (s.setScanAcc acc).rxMode = s.rxMode := rfl
@[simp] theorem setScanAcc_payAcc : (s.setScanAcc acc).payAcc = s.payAcc := rfl
@[simp] theorem setScanAcc_payCount : (s.setScanAcc acc).payCount = s.payCount := rfl
@[simp] theorem setScanAcc_rxByte : (s.setScanAcc acc).rxByte = s.rxByte := rfl
@[simp] theorem setScanAcc_rxSync : (s.setScanAcc acc).rxSync = s.rxSync := rfl
@[simp] theorem setScanAcc_rxValid : (s.setScanAcc acc).rxValid = s.rxValid := rfl
@[simp] theorem setScanAcc_txState : (s.setScanAcc acc).txState = s.txState := rfl
@[simp] theorem setScanAcc_txFrame : (s.setScanAcc acc).txFrame = s.txFrame := rfl
@[simp] theorem setScanAcc_txIndex : (s.setScanAcc acc).txIndex = s.txIndex := rfl
@[simp] theorem setScanAcc_lineOut : (s.setScanAcc acc).lineOut = s.lineOut := rfl
@[simp] theorem setScanAcc_decided : (s.setScanAcc acc).decided = s.decided := rfl
@[simp] theorem setScanAcc_stimuli : (s.setScanAcc acc).stimuli = s.stimuli := rfl
@[simp] theorem setScanAcc_cycle : (s.setScanAcc acc).cycle = s.cycle := rfl
@[simp] theorem setScanAcc_inputs : (s.setScanAcc acc).inputs = s.inputs := rfl
@[simp] theorem setScanAcc_symbolOf (x : Nat) : (s.setScanAcc acc).symbolOf x = s.symbolOf x := rfl
@[simp] theorem setScanAcc_sampleIn : (s.setScanAcc acc).sampleIn = s.sampleIn := rfl
@[simp] theorem setScanAcc_rxLast : (s.setScanAcc acc).rxLast = s.rxLast := rfl
@[simp] theorem setScanAcc_txLast : (s.setScanAcc acc).txLast = s.txLast := rfl
end setScanAcc

section startFrame
@[simp] theorem startFrame_build : (s.startFrame).build = s.build := rfl
@[simp] theorem startFrame_prevSample : (s.startFrame).prevSample = s.prevSample := rfl
@[simp] theorem startFrame_prevSymbol : (s.startFrame).prevSymbol = s.prevSymbol := rfl
@[simp] theorem startFrame_scanAcc : (s.startFrame).scanAcc = s.scanAcc := rfl
@[simp] theorem startFrame_rxMode : (s.startFrame).rxMode = .frame := rfl
@[simp] theorem startFrame_payAcc : (s.startFrame).payAcc = 0#8 := rfl
@[simp] theorem startFrame_payCount : (s.startFrame).payCount = 0#3 := rfl
@[simp] theorem startFrame_rxByte : (s.startFrame).rxByte = s.rxByte := rfl
@[simp] theorem startFrame_rxSync : (s.startFrame).rxSync = s.rxSync := rfl
@[simp] theorem startFrame_rxValid : (s.startFrame).rxValid = s.rxValid := rfl
@[simp] theorem startFrame_txState : (s.startFrame).txState = s.txState := rfl
@[simp] theorem startFrame_txFrame : (s.startFrame).txFrame = s.txFrame := rfl
@[simp] theorem startFrame_txIndex : (s.startFrame).txIndex = s.txIndex := rfl
@[simp] theorem startFrame_lineOut : (s.startFrame).lineOut = s.lineOut := rfl
@[simp] theorem startFrame_decided : (s.startFrame).decided = s.decided := rfl
@[simp] theorem startFrame_stimuli : (s.startFrame).stimuli = s.stimuli := rfl
@[simp] theorem startFrame_cycle : (s.startFrame).cycle = s.cycle := rfl
@[simp] theorem startFrame_inputs : (s.startFrame).inputs = s.inputs := rfl
@[simp] theorem startFrame_symbolOf (x : Nat) : (s.startFrame).symbolOf x = s.symbolOf x := rfl
@[simp] theorem startFrame_sampleIn : (s.startFrame).sampleIn = s.sampleIn := rfl
@[simp] theorem startFrame_txLast : (s.startFrame).txLast = s.txLast := rfl
end startFrame

section pushPayload
variable (acc : Byte)
@[simp] theorem pushPayload_build : (s.pushPayload acc).build = s.build := rfl
@[simp] theorem pushPayload_prevSample : (s.pushPayload acc).prevSample = s.prevSample := rfl
@[simp] theorem pushPayload_prevSymbol : (s.pushPayload acc).prevSymbol = s.prevSymbol := rfl
@[simp] theorem pushPayload_scanAcc : (s.pushPayload acc).scanAcc = s.scanAcc := rfl
@[simp] theorem pushPayload_rxMode : (s.pushPayload acc).rxMode = s.rxMode := rfl
@[simp] theorem pushPayload_payAcc : (s.pushPayload acc).payAcc = acc := rfl
@[simp] theorem pushPayload_payCount : (s.pushPayload acc).payCount = s.payCount + 1#3 := rfl
@[simp] theorem pushPayload_rxByte : (s.pushPayload acc).rxByte = s.rxByte := rfl
@[simp] theorem pushPayload_rxSync : (s.pushPayload acc).rxSync = s.rxSync := rfl
@[simp] theorem pushPayload_rxValid : (s.pushPayload acc).rxValid = s.rxValid := rfl
@[simp] theorem pushPayload_txState : (s.pushPayload acc).txState = s.txState := rfl
@[simp] theorem pushPayload_txFrame : (s.pushPayload acc).txFrame = s.txFrame := rfl
@[simp] theorem pushPayload_txIndex : (s.pushPayload acc).txIndex = s.txIndex := rfl
@[simp] theorem pushPayload_lineOut : (s.pushPayload acc).lineOut = s.lineOut := rfl
@[simp] theorem pushPayload_decided : (s.pushPayload acc).decided = s.decided := rfl
@[simp] theorem pushPayload_stimuli : (s.pushPayload acc).stimuli = s.stimuli := rfl
@[simp] theorem pushPayload_cycle : (s.pushPayload acc).cycle = s.cycle := rfl
@[simp] theorem pushPayload_inputs : (s.pushPayload acc).inputs = s.inputs := rfl
@[simp] theorem pushPayload_symbolOf (x : Nat) : (s.pushPayload acc).symbolOf x = s.symbolOf x := rfl
@[simp] theorem pushPayload_sampleIn : (s.pushPayload acc).sampleIn = s.sampleIn := rfl
@[simp] theorem pushPayload_txLast : (s.pushPayload acc).txLast = s.txLast := rfl
end pushPayload

section finishFrame
variable (acc : Byte)
@[simp] theorem finishFrame_build : (s.finishFrame acc).build = s.build := rfl
@[simp] theorem finishFrame_prevSample : (s.finishFrame acc).prevSample = s.prevSample := rfl
@[simp] theorem finishFrame_prevSymbol : (s.finishFrame acc).prevSymbol = s.prevSymbol := rfl
@[simp] theorem finishFrame_scanAcc : (s.finishFrame acc).scanAcc = s.scanAcc := rfl
@[simp] theorem finishFrame_rxMode : (s.finishFrame acc).rxMode = .scan := rfl
@[simp] theorem finishFrame_payAcc : (s.finishFrame acc).payAcc = acc := rfl
@[simp] theorem finishFrame_payCount : (s.finishFrame acc).payCount = 0#3 := rfl
@[simp] theorem finishFrame_rxByte : (s.finishFrame acc).rxByte = acc := rfl
@[simp] theorem finishFrame_rxSync : (s.finishFrame acc).rxSync = s.rxSync := rfl
@[simp] theorem finishFrame_rxValid : (s.finishFrame acc).rxValid = s.rxValid := rfl
@[simp] theorem finishFrame_txState : (s.finishFrame acc).txState = s.txState := rfl
@[simp] theorem finishFrame_txFrame : (s.finishFrame acc).txFrame = s.txFrame := rfl
@[simp] theorem finishFrame_txIndex : (s.finishFrame acc).txIndex = s.txIndex := rfl
@[simp] theorem finishFrame_lineOut : (s.finishFrame acc).lineOut = s.lineOut := rfl
@[simp] theorem finishFrame_decided : (s.finishFrame acc).decided = s.decided := rfl
@[simp] theorem finishFrame_stimuli : (s.finishFrame acc).stimuli = s.stimuli := rfl
@[simp] theorem finishFrame_cycle : (s.finishFrame acc).cycle = s.cycle := rfl
@[simp] theorem finishFrame_inputs : (s.finishFrame acc).inputs = s.inputs := rfl
@[simp] theorem finishFrame_symbolOf (x : Nat) : (s.finishFrame acc).symbolOf x = s.symbolOf x := rfl
@[simp] theorem finishFrame_sampleIn : (s.finishFrame acc).sampleIn = s.sampleIn := rfl
@[simp] theorem finishFrame_txLast : (s.finishFrame acc).txLast = s.txLast := rfl
end finishFrame

section resetRx
@[simp] theorem resetRx_build : (s.resetRx).build = s.build := rfl
@[simp] theorem resetRx_prevSample : (s.resetRx).prevSample = 0 := rfl
@[simp] theorem resetRx_prevSymbol : (s.resetRx).prevSymbol = LOW := rfl
@[simp] theorem resetRx_scanAcc : (s.resetRx).scanAcc = 0#8 := rfl
@[simp] theorem resetRx_rxMode : (s.resetRx).rxMode = .scan := rfl
@[simp] theorem resetRx_payAcc : (s.resetRx).payAcc = 0#8 := rfl
@[simp] theorem resetRx_payCount : (s.resetRx).payCount = 0#3 := rfl
@[simp] theorem resetRx_rxByte : (s.resetRx).rxByte = 0#8 := rfl
@[simp] theorem resetRx_rxSync : (s.resetRx).rxSync = false := rfl
@[simp] theorem resetRx_rxValid : (s.resetRx).rxValid = false := rfl
@[simp] theorem resetRx_txState : (s.resetRx).txState = s.txState := rfl
@[simp] theorem resetRx_txFrame : (s.resetRx).txFrame = s.txFrame := rfl
@[simp] theorem resetRx_txIndex : (s.resetRx).txIndex = s.txIndex := rfl
@[simp] theorem resetRx_lineOut : (s.resetRx).lineOut = s.lineOut := rfl
@[simp] theorem resetRx_decided : (s.resetRx).decided = s.decided := rfl
@[simp] theorem resetRx_stimuli : (s.resetRx).stimuli = s.stimuli := rfl
@[simp] theorem resetRx_cycle : (s.resetRx).cycle = s.cycle := rfl
@[simp] theorem resetRx_inputs : (s.resetRx).inputs = s.inputs := rfl
@[simp] theorem resetRx_sampleIn : (s.resetRx).sampleIn = s.sampleIn := rfl
@[simp] theorem resetRx_txLast : (s.resetRx).txLast = s.txLast := rfl
end resetRx

section resetTx
@[simp] theorem resetTx_build : (s.resetTx).build = s.build := rfl
@[simp] theorem resetTx_prevSample : (s.resetTx).prevSample = s.prevSample := rfl
@[simp] theorem resetTx_prevSymbol : (s.resetTx).prevSymbol = s.prevSymbol := rfl
@[simp] theorem resetTx_scanAcc : (s.resetTx).scanAcc = s.scanAcc := rfl
@[simp] theorem resetTx_rxMode : (s.resetTx).rxMode = s.rxMode := rfl
@[simp] theorem resetTx_payAcc : (s.resetTx).payAcc = s.payAcc := rfl
@[simp] theorem resetTx_payCount : (s.resetTx).payCount = s.payCount := rfl
@[simp] theorem resetTx_rxByte : (s.resetTx).rxByte = s.rxByte := rfl
@[simp] theorem resetTx_rxSync : (s.resetTx).rxSync = s.rxSync := rfl
@[simp] theorem resetTx_rxValid : (s.resetTx).rxValid = s.rxValid := rfl
@[simp] theorem resetTx_txState : (s.resetTx).txState = .idle := rfl
@[simp] theorem resetTx_txFrame : (s.resetTx).txFrame = 0#16 := rfl
@[simp] theorem resetTx_txIndex : (s.resetTx).txIndex = 0#5 := rfl
@[simp] theorem resetTx_lineOut : (s.resetTx).lineOut = LOW := rfl
@[simp] theorem resetTx_decided : (s.resetTx).decided = s.decided := rfl
@[simp] theorem resetTx_stimuli : (s.resetTx).stimuli = s.stimuli := rfl
@[simp] theorem resetTx_cycle : (s.resetTx).cycle = s.cycle := rfl
@[simp] theorem resetTx_inputs : (s.resetTx).inputs = s.inputs := rfl
@[simp] theorem resetTx_symbolOf (x : Nat) : (s.resetTx).symbolOf x = s.symbolOf x := rfl
@[simp] theorem resetTx_sampleIn : (s.resetTx).sampleIn = s.sampleIn := rfl
@[simp] theorem resetTx_rxLast : (s.resetTx).rxLast = s.rxLast := rfl
end resetTx

section setLine
variable (level : Level)
@[simp] theorem setLine_build : (s.setLine level).build = s.build := rfl
@[simp] theorem setLine_prevSample : (s.setLine level).prevSample = s.prevSample := rfl
@[simp] theorem setLine_prevSymbol : (s.setLine level).prevSymbol = s.prevSymbol := rfl
@[simp] theorem setLine_scanAcc : (s.setLine level).scanAcc = s.scanAcc := rfl
@[simp] theorem setLine_rxMode : (s.setLine level).rxMode = s.rxMode := rfl
@[simp] theorem setLine_payAcc : (s.setLine level).payAcc = s.payAcc := rfl
@[simp] theorem setLine_payCount : (s.setLine level).payCount = s.payCount := rfl
@[simp] theorem setLine_rxByte : (s.setLine level).rxByte = s.rxByte := rfl
@[simp] theorem setLine_rxSync : (s.setLine level).rxSync = s.rxSync := rfl
@[simp] theorem setLine_rxValid : (s.setLine level).rxValid = s.rxValid := rfl
@[simp] theorem setLine_txState : (s.setLine level).txState = s.txState := rfl
@[simp] theorem setLine_txFrame : (s.setLine level).txFrame = s.txFrame := rfl
@[simp] theorem setLine_txIndex : (s.setLine level).txIndex = s.txIndex := rfl
@[simp] theorem setLine_lineOut : (s.setLine level).lineOut = level := rfl
@[simp] theorem setLine_decided : (s.setLine level).decided = s.decided := rfl
@[simp] theorem setLine_stimuli : (s.setLine level).stimuli = s.stimuli := rfl
@[simp] theorem setLine_cycle : (s.setLine level).cycle = s.cycle := rfl
@[simp] theorem setLine_inputs : (s.setLine level).inputs = s.inputs := rfl
@[simp] theorem setLine_symbolOf (x : Nat) : (s.setLine level).symbolOf x = s.symbolOf x := rfl
@[simp] theorem setLine_sampleIn : (s.setLine level).sampleIn = s.sampleIn := rfl
@[simp] theorem setLine_rxLast : (s.setLine level).rxLast = s.rxLast := rfl
@[simp] theorem setLine_txLast : (s.setLine level).txLast = s.txLast := rfl
end setLine

section captureFrame
variable (payload : Byte)
@[simp] theorem captureFrame_build : (s.captureFrame payload).build = s.build := rfl
@[simp] theorem captureFrame_prevSample : (s.captureFrame payload).prevSample = s.prevSample := rfl
@[simp] theorem captureFrame_prevSymbol : (s.captureFrame payload).prevSymbol = s.prevSymbol := rfl
@[simp] theorem captureFrame_scanAcc : (s.captureFrame payload).scanAcc = s.scanAcc := rfl
@[simp] theorem captureFrame_rxMode : (s.captureFrame payload).rxMode = s.rxMode := rfl
@[simp] theorem captureFrame_payAcc : (s.captureFrame payload).payAcc = s.payAcc := rfl
@[simp] theorem captureFrame_payCount : (s.captureFrame payload).payCount = s.payCount := rfl
@[simp] theorem captureFrame_rxByte : (s.captureFrame payload).rxByte = s.rxByte := rfl
@[simp] theorem captureFrame_rxSync : (s.captureFrame payload).rxSync = s.rxSync := rfl
@[simp] theorem captureFrame_rxValid : (s.captureFrame payload).rxValid = s.rxValid := rfl
@[simp] theorem captureFrame_txState : (s.captureFrame payload).txState = .armed := rfl
@[simp] theorem captureFrame_txFrame : (s.captureFrame payload).txFrame = frameOf payload := rfl
@[simp] theorem captureFrame_txIndex : (s.captureFrame payload).txIndex = 0#5 := rfl
@[simp] theorem captureFrame_lineOut : (s.captureFrame payload).lineOut = LOW := rfl
@[simp] theorem captureFrame_decided : (s.captureFrame payload).decided = s.decided := rfl
@[simp] theorem captureFrame_stimuli : (s.captureFrame payload).stimuli = s.stimuli := rfl
@[simp] theorem captureFrame_cycle : (s.captureFrame payload).cycle = s.cycle := rfl
@[simp] theorem captureFrame_inputs : (s.captureFrame payload).inputs = s.inputs := rfl
@[simp] theorem captureFrame_symbolOf (x : Nat) : (s.captureFrame payload).symbolOf x = s.symbolOf x := rfl
@[simp] theorem captureFrame_sampleIn : (s.captureFrame payload).sampleIn = s.sampleIn := rfl
@[simp] theorem captureFrame_rxLast : (s.captureFrame payload).rxLast = s.rxLast := rfl
end captureFrame

section startSending
@[simp] theorem startSending_build : (s.startSending).build = s.build := rfl
@[simp] theorem startSending_prevSample : (s.startSending).prevSample = s.prevSample := rfl
@[simp] theorem startSending_prevSymbol : (s.startSending).prevSymbol = s.prevSymbol := rfl
@[simp] theorem startSending_scanAcc : (s.startSending).scanAcc = s.scanAcc := rfl
@[simp] theorem startSending_rxMode : (s.startSending).rxMode = s.rxMode := rfl
@[simp] theorem startSending_payAcc : (s.startSending).payAcc = s.payAcc := rfl
@[simp] theorem startSending_payCount : (s.startSending).payCount = s.payCount := rfl
@[simp] theorem startSending_rxByte : (s.startSending).rxByte = s.rxByte := rfl
@[simp] theorem startSending_rxSync : (s.startSending).rxSync = s.rxSync := rfl
@[simp] theorem startSending_rxValid : (s.startSending).rxValid = s.rxValid := rfl
@[simp] theorem startSending_txState : (s.startSending).txState = .send := rfl
@[simp] theorem startSending_txFrame : (s.startSending).txFrame = s.txFrame := rfl
@[simp] theorem startSending_txIndex : (s.startSending).txIndex = 1#5 := rfl
@[simp] theorem startSending_lineOut : (s.startSending).lineOut = s.txFrame.getLsbD 15 := rfl
@[simp] theorem startSending_decided : (s.startSending).decided = s.decided := rfl
@[simp] theorem startSending_stimuli : (s.startSending).stimuli = s.stimuli := rfl
@[simp] theorem startSending_cycle : (s.startSending).cycle = s.cycle := rfl
@[simp] theorem startSending_inputs : (s.startSending).inputs = s.inputs := rfl
@[simp] theorem startSending_symbolOf (x : Nat) : (s.startSending).symbolOf x = s.symbolOf x := rfl
@[simp] theorem startSending_sampleIn : (s.startSending).sampleIn = s.sampleIn := rfl
@[simp] theorem startSending_rxLast : (s.startSending).rxLast = s.rxLast := rfl
end startSending

section sendBit
@[simp] theorem sendBit_build : (s.sendBit).build = s.build := rfl
@[simp] theorem sendBit_prevSample : (s.sendBit).prevSample = s.prevSample := rfl
@[simp] theorem sendBit_prevSymbol : (s.sendBit).prevSymbol = s.prevSymbol := rfl
@[simp] theorem sendBit_scanAcc : (s.sendBit).scanAcc = s.scanAcc := rfl
@[simp] theorem sendBit_rxMode : (s.sendBit).rxMode = s.rxMode := rfl
@[simp] theorem sendBit_payAcc : (s.sendBit).payAcc = s.payAcc := rfl
@[simp] theorem sendBit_payCount : (s.sendBit).payCount = s.payCount := rfl
@[simp] theorem sendBit_rxByte : (s.sendBit).rxByte = s.rxByte := rfl
@[simp] theorem sendBit_rxSync : (s.sendBit).rxSync = s.rxSync := rfl
@[simp] theorem sendBit_rxValid : (s.sendBit).rxValid = s.rxValid := rfl
@[simp] theorem sendBit_txState : (s.sendBit).txState = s.txState := rfl
@[simp] theorem sendBit_txFrame : (s.sendBit).txFrame = s.txFrame := rfl
@[simp] theorem sendBit_txIndex : (s.sendBit).txIndex = s.txIndex + 1#5 := rfl
@[simp] theorem sendBit_lineOut : (s.sendBit).lineOut = frameBit s.txFrame s.txIndex := rfl
@[simp] theorem sendBit_decided : (s.sendBit).decided = s.decided := rfl
@[simp] theorem sendBit_stimuli : (s.sendBit).stimuli = s.stimuli := rfl
@[simp] theorem sendBit_cycle : (s.sendBit).cycle = s.cycle := rfl
@[simp] theorem sendBit_inputs : (s.sendBit).inputs = s.inputs := rfl
@[simp] theorem sendBit_symbolOf (x : Nat) : (s.sendBit).symbolOf x = s.symbolOf x := rfl
@[simp] theorem sendBit_sampleIn : (s.sendBit).sampleIn = s.sampleIn := rfl
@[simp] theorem sendBit_rxLast : (s.sendBit).rxLast = s.rxLast := rfl
end sendBit

section goIdle
@[simp] theorem goIdle_build : (s.goIdle).build = s.build := rfl
@[simp] theorem goIdle_prevSample : (s.goIdle).prevSample = s.prevSample := rfl
@[simp] theorem goIdle_prevSymbol : (s.goIdle).prevSymbol = s.prevSymbol := rfl
@[simp] theorem goIdle_scanAcc : (s.goIdle).scanAcc = s.scanAcc := rfl
@[simp] theorem goIdle_rxMode : (s.goIdle).rxMode = s.rxMode := rfl
@[simp] theorem goIdle_payAcc : (s.goIdle).payAcc = s.payAcc := rfl
@[simp] theorem goIdle_payCount : (s.goIdle).payCount = s.payCount := rfl
@[simp] theorem goIdle_rxByte : (s.goIdle).rxByte = s.rxByte := rfl
@[simp] theorem goIdle_rxSync : (s.goIdle).rxSync = s.rxSync := rfl
@[simp] theorem goIdle_rxValid : (s.goIdle).rxValid = s.rxValid := rfl
@[simp] theorem goIdle_txState : (s.goIdle).txState = .idle := rfl
@[simp] theorem goIdle_txFrame : (s.goIdle).txFrame = s.txFrame := rfl
@[simp] theorem goIdle_txIndex : (s.goIdle).txIndex = 0#5 := rfl
@[simp] theorem goIdle_lineOut : (s.goIdle).lineOut = LOW := rfl
@[simp] theorem goIdle_decided : (s.goIdle).decided = s.decided := rfl
@[simp] theorem goIdle_stimuli : (s.goIdle).stimuli = s.stimuli := rfl
@[simp] theorem goIdle_cycle : (s.goIdle).cycle = s.cycle := rfl
@[simp] theorem goIdle_inputs : (s.goIdle).inputs = s.inputs := rfl
@[simp] theorem goIdle_symbolOf (x : Nat) : (s.goIdle).symbolOf x = s.symbolOf x := rfl
@[simp] theorem goIdle_sampleIn : (s.goIdle).sampleIn = s.sampleIn := rfl
@[simp] theorem goIdle_rxLast : (s.goIdle).rxLast = s.rxLast := rfl
end goIdle

section beginCycle
@[simp] theorem beginCycle_build : (s.beginCycle).build = s.build := rfl
@[simp] theorem beginCycle_prevSample : (s.beginCycle).prevSample = s.prevSample := rfl
@[simp] theorem beginCycle_prevSymbol : (s.beginCycle).prevSymbol = s.prevSymbol := rfl
@[simp] theorem beginCycle_scanAcc : (s.beginCycle).scanAcc = s.scanAcc := rfl
@[simp] theorem beginCycle_rxMode : (s.beginCycle).rxMode = s.rxMode := rfl
@[simp] theorem beginCycle_payAcc : (s.beginCycle).payAcc = s.payAcc := rfl
@[simp] theorem beginCycle_payCount : (s.beginCycle).payCount = s.payCount := rfl
@[simp] theorem beginCycle_rxByte : (s.beginCycle).rxByte = s.rxByte := rfl
@[simp] theorem beginCycle_rxSync : (s.beginCycle).rxSync = s.rxSync := rfl
@[simp] theorem beginCycle_rxValid : (s.beginCycle).rxValid = s.rxValid := rfl
@[simp] theorem beginCycle_txState : (s.beginCycle).txState = s.txState := rfl
@[simp] theorem beginCycle_txFrame : (s.beginCycle).txFrame = s.txFrame := rfl
@[simp] theorem beginCycle_txIndex : (s.beginCycle).txIndex = s.txIndex := rfl
@[simp] theorem beginCycle_lineOut : (s.beginCycle).lineOut = s.lineOut := rfl
@[simp] theorem beginCycle_decided : (s.beginCycle).decided = none := rfl
@[simp] theorem beginCycle_stimuli : (s.beginCycle).stimuli = s.stimuli := rfl
@[simp] theorem beginCycle_cycle : (s.beginCycle).cycle = s.cycle := rfl
@[simp] theorem beginCycle_inputs : (s.beginCycle).inputs = s.inputs := rfl
@[simp] theorem beginCycle_symbolOf (x : Nat) : (s.beginCycle).symbolOf x = s.symbolOf x := rfl
@[simp] theorem beginCycle_sampleIn : (s.beginCycle).sampleIn = s.sampleIn := rfl
@[simp] theorem beginCycle_rxLast : (s.beginCycle).rxLast = s.rxLast := rfl
@[simp] theorem beginCycle_txLast : (s.beginCycle).txLast = s.txLast := rfl
end beginCycle

section endCycle
@[simp] theorem endCycle_build : (s.endCycle).build = s.build := rfl
@[simp] theorem endCycle_prevSample : (s.endCycle).prevSample = s.prevSample := rfl
@[simp] theorem endCycle_prevSymbol : (s.endCycle).prevSymbol = s.prevSymbol := rfl
@[simp] theorem endCycle_scanAcc : (s.endCycle).scanAcc = s.scanAcc := rfl
@[simp] theorem endCycle_rxMode : (s.endCycle).rxMode = s.rxMode := rfl
@[simp] theorem endCycle_payAcc : (s.endCycle).payAcc = s.payAcc := rfl
@[simp] theorem endCycle_payCount : (s.endCycle).payCount = s.payCount := rfl
@[simp] theorem endCycle_rxByte : (s.endCycle).rxByte = s.rxByte := rfl
@[simp] theorem endCycle_rxSync : (s.endCycle).rxSync = s.rxSync := rfl
@[simp] theorem endCycle_rxValid : (s.endCycle).rxValid = s.rxValid := rfl
@[simp] theorem endCycle_txState : (s.endCycle).txState = s.txState := rfl
@[simp] theorem endCycle_txFrame : (s.endCycle).txFrame = s.txFrame := rfl
@[simp] theorem endCycle_txIndex : (s.endCycle).txIndex = s.txIndex := rfl
@[simp] theorem endCycle_lineOut : (s.endCycle).lineOut = s.lineOut := rfl
@[simp] theorem endCycle_decided : (s.endCycle).decided = s.decided := rfl
@[simp] theorem endCycle_stimuli : (s.endCycle).stimuli = s.stimuli.tail := rfl
@[simp] theorem endCycle_cycle : (s.endCycle).cycle = s.cycle + 1 := rfl
@[simp] theorem endCycle_symbolOf (x : Nat) : (s.endCycle).symbolOf x = s.symbolOf x := rfl
@[simp] theorem endCycle_rxLast : (s.endCycle).rxLast = s.rxLast := rfl
@[simp] theorem endCycle_txLast : (s.endCycle).txLast = s.txLast := rfl
end endCycle

@[simp] theorem drive_sampleIn (i : Inputs) : (s.drive i).sampleIn = i.sampleIn % 2 ^ s.build.sampleBits := rfl

@[simp] theorem drive_inputs (i : Inputs) : (s.drive i).inputs = i := rfl

@[simp] theorem drive_rxPorts (i : Inputs) : (s.drive i).rxPorts = s.rxPorts := rfl

@[simp] theorem drive_txPorts (i : Inputs) : (s.drive i).txPorts = s.txPorts := rfl

section resetOf
variable (b : Build)
@[simp] theorem resetOf_build : (State.resetOf b).build = b := rfl
@[simp] theorem resetOf_prevSample : (State.resetOf b).prevSample = 0 := rfl
@[simp] theorem resetOf_prevSymbol : (State.resetOf b).prevSymbol = LOW := rfl
@[simp] theorem resetOf_scanAcc : (State.resetOf b).scanAcc = 0#8 := rfl
@[simp] theorem resetOf_rxMode : (State.resetOf b).rxMode = .scan := rfl
@[simp] theorem resetOf_payAcc : (State.resetOf b).payAcc = 0#8 := rfl
@[simp] theorem resetOf_payCount : (State.resetOf b).payCount = 0#3 := rfl
@[simp] theorem resetOf_rxByte : (State.resetOf b).rxByte = 0#8 := rfl
@[simp] theorem resetOf_rxSync : (State.resetOf b).rxSync = false := rfl
@[simp] theorem resetOf_rxValid : (State.resetOf b).rxValid = false := rfl
@[simp] theorem resetOf_txState : (State.resetOf b).txState = .idle := rfl
@[simp] theorem resetOf_txFrame : (State.resetOf b).txFrame = 0#16 := rfl
@[simp] theorem resetOf_txIndex : (State.resetOf b).txIndex = 0#5 := rfl
@[simp] theorem resetOf_lineOut : (State.resetOf b).lineOut = LOW := rfl
@[simp] theorem resetOf_decided : (State.resetOf b).decided = none := rfl
@[simp] theorem resetOf_stimuli : (State.resetOf b).stimuli = [] := rfl
@[simp] theorem resetOf_cycle : (State.resetOf b).cycle = 0 := rfl
end resetOf

end Sys2Proof.Machine
end

