-- ==== Sys2Proof/Laws/Ops.lean ====
section
/-! SUPPORT. For each shared operation, one lemma that says what it does, for proofs to cite instead of unfolding
it: the Demodulator's decision, the shift register, the frame's bits, the selectors' decode, and the runs. -/

namespace Sys2Proof.Machine

/-- R100 over natural numbers (the second form of R104). -/
theorem decideFromHigh_iff (threshold : Nat) (prevSample sample : Nat) :
    decideFromHigh threshold prevSample sample = true ↔ prevSample < sample + threshold := by
  unfold decideFromHigh
  rw [decide_eq_true_iff]
  omega

/-- R101 over natural numbers (the second form of R104). -/
theorem decideFromLow_iff (threshold : Nat) (prevSample sample : Nat) :
    decideFromLow threshold prevSample sample = true ↔ prevSample + threshold ≤ sample := by
  unfold decideFromLow
  rw [decide_eq_true_iff]
  omega

@[simp] theorem demod_high (threshold : Nat) (prevSample sample : Nat) :
    demod threshold true prevSample sample = decideFromHigh threshold prevSample sample := rfl

@[simp] theorem demod_low (threshold : Nat) (prevSample sample : Nat) :
    demod threshold false prevSample sample = decideFromLow threshold prevSample sample := rfl

/-- `Shift8` as a number: twice the accumulator plus the symbol, in 8 bits (R12, R14). -/
theorem shift8_toNat (acc : Byte) (symbol : Symbol) :
    (shift8 acc symbol).toNat = (2 * acc.toNat + symbol.toNat) % 256 := by
  cases symbol
  · revert acc; decide
  · revert acc; decide

/-- Bit 0 of `Shift8` is the new symbol (R14). -/
theorem shift8_getLsbD_zero (acc : Byte) (symbol : Symbol) : (shift8 acc symbol).getLsbD 0 = symbol := by
  cases symbol <;> simp [shift8]

/-- Every other bit of `Shift8` is the bit below it before (R14). -/
theorem shift8_getLsbD_succ (acc : Byte) (symbol : Symbol) (k : Nat) (hk : k + 1 < 8) :
    (shift8 acc symbol).getLsbD (k + 1) = acc.getLsbD k := by
  have h : k < 8 := by omega
  cases symbol <;> simp [shift8, hk, BitVec.getLsbD_eq_getElem h]

/-- The upper half of a frame is the preamble's and the lower half the payload's (R72). -/
theorem frameOf_getLsbD (payload : Byte) (k : Nat) :
    (frameOf payload).getLsbD k = if k < 8 then payload.getLsbD k else Config.preamble.getLsbD (k - 8) := by
  exact BitVec.getLsbD_append

/-- Where R165 gives TX_BIT its operand, the level is the frame's bit. -/
theorem frameBit_of_le (frame : Frame) (index : BitVec 5) (h : index.toNat ≤ 15) :
    frameBit frame index = frame.getLsbD (15 - index.toNat) := by
  simp [frameBit, h]

/-- The rows of R77, read from the selector's four parts. -/
theorem decodeRxsel_rxselWord (rst tick : Bool) (mode : RxMode) (last : Bool) (sample : Nat) :
    decodeRxsel (rxselWord rst tick mode last) sample =
      if rst then .rxReset
      else if !tick then .rxWait
      else if mode = .scan then .rxScanTick sample
      else if last then .rxFrameLast sample
      else .rxFrameTick sample := by
  cases rst <;> cases tick <;> cases mode <;> cases last <;> rfl

/-- The rows of R78, read from the selector's five parts. -/
theorem decodeTxsel_txselWord (rst tick start : Bool) (state : TxState) (last : Bool) (data : Byte) :
    decodeTxsel (txselWord rst tick start state last) data =
      if rst then .txReset
      else match state with
        | .idle => if start then .txCapture data else .txIdle
        | .armed => if tick then .txFirstBit else .txArmedWait
        | .send => if tick then (if last then .txEnd else .txBit) else .txSendWait
        | .reserved => .txRecover := by
  cases rst <;> cases tick <;> cases start <;> cases state <;> cases last <;> rfl

/-- The rows of R79. -/
theorem decodeDmsel_dmselWord (prevSymbol : Symbol) (sample : Nat) :
    decodeDmsel (dmselWord prevSymbol) sample =
      if prevSymbol then .demodFromHigh sample else .demodFromLow sample := by
  cases prevSymbol <;> rfl

@[simp] theorem execAll_nil (s : State) : execAll [] s = .next s := rfl

/-- An operation that answers `next t` hands `t` to the rest of the cycle. -/
theorem execAll_cons_of_next {i : Instr} {rest : List Instr} {s t : State} (h : exec i s = .next t) :
    execAll (i :: rest) s = execAll rest t := by
  simp [execAll, h]

/-- A cycle whose operations all answer `next` ends in their last state, its stimulus used up. -/
theorem step_of_execAll {s t : State} (h : execAll s.operations s.beginCycle = .next t) :
    step s = .next t.endCycle := by
  simp [step, runCycle, h]

@[simp] theorem runInputs_nil (s : State) : runInputs [] s = .next s := rfl

/-- A run goes on from the state its first cycle ends in. -/
theorem runInputs_cons_of_next {i : Inputs} {rest : List Inputs} {s t : State} (h : step (s.drive i) = .next t) :
    runInputs (i :: rest) s = runInputs rest t := by
  simp [runInputs, h]

@[simp] theorem loopbackTrace_nil (low high : Nat) (s : State) : loopbackTrace low high [] s = [] := rfl

/-- A loopback run goes on from the state its first cycle ends in. -/
theorem loopbackTrace_cons_of_next {low high : Nat} {c : LoopCycle} {rest : List LoopCycle} {s t : State}
    (h : step (s.drive (c.inputs low high s)) = .next t) :
    loopbackTrace low high (c :: rest) s = t :: loopbackTrace low high rest t := by
  simp [loopbackTrace, h]

/-- The parameters the instance was built with are legal ones (R9). -/
theorem config_build_wellFormed : Config.build.wellFormed = true := by
  have h : Config.thresholdBits.toNat < 2 ^ (Config.extraSampleBits + 1) := Config.thresholdBits.isLt
  simp [Build.wellFormed, Config.build, sampleInRange, h]

end Sys2Proof.Machine
end

