-- ==== Sys2Proof/Laws/PerInstr.lean ====
section
/-! SUPPORT. A law of the operations as syntax: the encoder writes a word of the operation's own row of
spec/opcode_table.json. -/

namespace Sys2Proof.Laws.EncodedInRow

/-- The encoded selector is the row's selector, its value fits, and it matches the row's mask and pattern. -/
def Statement (i : Instr) : Prop :=
  (encode i).format = (rowOf i).format ∧ (encode i).word < 2 ^ formatWidth (encode i).format ∧
    rowCovers (rowOf i) (encode i).word = true

theorem rxReset : Statement .rxReset := by unfold Statement; decide
theorem rxWait : Statement .rxWait := by unfold Statement; decide
theorem rxScanTick (x : Nat) : Statement (.rxScanTick x) := by simp [Statement, rowCovers, rowOf, encode, formatWidth]
theorem rxFrameTick (x : Nat) : Statement (.rxFrameTick x) := by simp [Statement, rowCovers, rowOf, encode, formatWidth]
theorem rxFrameLast (x : Nat) : Statement (.rxFrameLast x) := by simp [Statement, rowCovers, rowOf, encode, formatWidth]
theorem txReset : Statement .txReset := by unfold Statement; decide
theorem txIdle : Statement .txIdle := by unfold Statement; decide
theorem txCapture (d : Byte) : Statement (.txCapture d) := by simp [Statement, rowCovers, rowOf, encode, formatWidth]
theorem txArmedWait : Statement .txArmedWait := by unfold Statement; decide
theorem txFirstBit : Statement .txFirstBit := by unfold Statement; decide
theorem txSendWait : Statement .txSendWait := by unfold Statement; decide
theorem txBit : Statement .txBit := by unfold Statement; decide
theorem txEnd : Statement .txEnd := by unfold Statement; decide
theorem txRecover : Statement .txRecover := by unfold Statement; decide
theorem demodFromHigh (x : Nat) : Statement (.demodFromHigh x) := by simp [Statement, rowCovers, rowOf, encode, formatWidth]
theorem demodFromLow (x : Nat) : Statement (.demodFromLow x) := by simp [Statement, rowCovers, rowOf, encode, formatWidth]

end Sys2Proof.Laws.EncodedInRow
end

