-- ==== Sys2Proof/Tests/Slice0.lean ====
section
/-! SUPPORT. The model's own tests: the checks of WellFormed and of Decode each refuse an ill-formed term, written-out
words decode, single cycles give the values of spec/95_test_vectors.md section 2 (the vectors' names are in the
docstrings), and for each statement with hypotheses a state and operands that meet them. -/

namespace Sys2Proof.Tests

open Sys2Proof Sys2Proof.Machine

/-! ## Helpers -/

/-- The instance of most vectors: `SAMPLE_BITS` = 10, `THRESHOLD` = 100. -/
def b10 : Build := ⟨10, 100, 1, .both⟩

/-- The instance of the 1-bit vectors: `SAMPLE_BITS` = 1, `THRESHOLD` = 1. -/
def b1 : Build := ⟨1, 1, 1, .both⟩

/-- Right after reset, `SAMPLE_BITS` = 10. -/
def s10 : State := State.resetOf b10

/-- Right after reset, `SAMPLE_BITS` = 1. -/
def s1 : State := State.resetOf b1

/-- A receiver in the middle of a frame. -/
def framing (acc : Byte) (count : BitVec 3) : State :=
  { s1 with rxMode := .frame, scanAcc := 0xB2#8, payAcc := acc, payCount := count }

/-- A transmitter at bit `index` of the frame of channel 5. -/
def sending (index : BitVec 5) : State :=
  { s1 with txState := .send, txFrame := 0xB205#16, txIndex := index,
            lineOut := (0xB205#16).getLsbD (16 - index.toNat) }

/-- A transmitter that has captured the frame of channel 5. -/
def armed : State := { s1 with txState := .armed, txFrame := 0xB205#16 }

/-- The state after one cycle with these items. -/
def after (items : List Item) (s : State) : State :=
  match step (s.drive (lineInputs items)) with
  | .next t => t
  | .fault _ => s
  | .refused _ => s

/-- The operations of a cycle with these items. -/
def ops (items : List Item) (s : State) : List Instr := (s.drive (lineInputs items)).operations

/-- The receiver registers a scanning vector shows. -/
def scanned (s : State) : Byte × RxMode × Bool × Bool := (s.scanAcc, s.rxMode, s.rxSync, s.rxValid)

/-- The receiver registers a framing vector shows. -/
def framed (s : State) : Byte × BitVec 3 × Byte × Bool × RxMode :=
  (s.payAcc, s.payCount, s.rxByte, s.rxValid, s.rxMode)

/-- The transmitter registers a vector shows. -/
def sent (s : State) : TxState × BitVec 5 × Level × Frame := (s.txState, s.txIndex, s.lineOut, s.txFrame)

/-- A cycle with these items gives a next state. -/
def runs (items : List Item) (s : State) : Bool :=
  match step (s.drive (lineInputs items)) with
  | .next _ => true
  | .fault _ => false
  | .refused _ => false

/-! ## WellFormed refuses each ill-formed term (R9, R83) -/

theorem test_build_of_the_vectors : b10.wellFormed = true ∧ b1.wellFormed = true := by decide
theorem test_build_no_sample_bits : Build.wellFormed ⟨0, 0, 1, .both⟩ = false := by decide
theorem test_build_threshold_too_large : Build.wellFormed ⟨10, 1024, 1, .both⟩ = false := by decide
theorem test_build_threshold_largest : Build.wellFormed ⟨10, 1023, 1, .both⟩ = true := by decide
theorem test_build_threshold_zero_is_legal : Build.wellFormed ⟨10, 0, 1, .both⟩ = true := by decide
theorem test_build_no_pulse_width : Build.wellFormed ⟨10, 100, 0, .both⟩ = false := by decide
theorem test_inputs_sample_too_wide : Inputs.wellFormed b10 ⟨false, true, 1024, false, false, 0⟩ = false := by decide
theorem test_inputs_sample_widest : Inputs.wellFormed b10 ⟨false, true, 1023, false, false, 0xFF⟩ = true := by decide
theorem test_instr_sample_too_wide :
    Instr.wellFormed b10 (.rxScanTick 1024) = false ∧ Instr.wellFormed b10 (.rxFrameTick 1024) = false ∧
    Instr.wellFormed b10 (.rxFrameLast 1024) = false ∧ Instr.wellFormed b10 (.demodFromHigh 1024) = false ∧
    Instr.wellFormed b10 (.demodFromLow 1024) = false := by decide

/-! ## Decode: every constructor from a word written out from R77 to R79, and each rejection -/

theorem test_decode_rxReset : decode 10 ⟨.rxsel, 0b1101, 5⟩ = .ok .rxReset := by decide
theorem test_decode_rxWait : decode 10 ⟨.rxsel, 0b0011, 5⟩ = .ok .rxWait := by decide
theorem test_decode_rxScanTick : decode 10 ⟨.rxsel, 0b0100, 600⟩ = .ok (.rxScanTick 600) := by decide
theorem test_decode_rxScanTick_unreachable : decode 10 ⟨.rxsel, 0b0101, 600⟩ = .ok (.rxScanTick 600) := by decide
theorem test_decode_rxFrameTick : decode 10 ⟨.rxsel, 0b0110, 600⟩ = .ok (.rxFrameTick 600) := by decide
theorem test_decode_rxFrameLast : decode 10 ⟨.rxsel, 0b0111, 600⟩ = .ok (.rxFrameLast 600) := by decide
theorem test_decode_txReset : decode 10 ⟨.txsel, 0b111111, 5⟩ = .ok .txReset := by decide
theorem test_decode_txIdle : decode 10 ⟨.txsel, 0b010001, 5⟩ = .ok .txIdle := by decide
theorem test_decode_txCapture : decode 10 ⟨.txsel, 0b011000, 5⟩ = .ok (.txCapture 5) := by decide
theorem test_decode_txArmedWait : decode 10 ⟨.txsel, 0b001010, 5⟩ = .ok .txArmedWait := by decide
theorem test_decode_txFirstBit : decode 10 ⟨.txsel, 0b010010, 5⟩ = .ok .txFirstBit := by decide
theorem test_decode_txSendWait : decode 10 ⟨.txsel, 0b001101, 5⟩ = .ok .txSendWait := by decide
theorem test_decode_txBit : decode 10 ⟨.txsel, 0b011100, 5⟩ = .ok .txBit := by decide
theorem test_decode_txEnd : decode 10 ⟨.txsel, 0b010101, 5⟩ = .ok .txEnd := by decide
theorem test_decode_txRecover : decode 10 ⟨.txsel, 0b000110, 5⟩ = .ok .txRecover := by decide
theorem test_decode_demodFromHigh : decode 10 ⟨.dmsel, 0b1, 600⟩ = .ok (.demodFromHigh 600) := by decide
theorem test_decode_demodFromLow : decode 10 ⟨.dmsel, 0b0, 600⟩ = .ok (.demodFromLow 600) := by decide
theorem test_reject_selector :
    decode 10 ⟨.rxsel, 16, 0⟩ = .error .selectorTooWide ∧ decode 10 ⟨.txsel, 64, 0⟩ = .error .selectorTooWide ∧
    decode 10 ⟨.dmsel, 2, 0⟩ = .error .selectorTooWide := by decide
theorem test_reject_sample :
    decode 10 ⟨.rxsel, 4, 1024⟩ = .error .sampleTooWide ∧ decode 10 ⟨.dmsel, 0, 1024⟩ = .error .sampleTooWide := by
  decide
theorem test_reject_payload : decode 10 ⟨.txsel, 8, 256⟩ = .error .payloadTooWide := by decide
theorem test_reject_stimulus : decodeStimulus 1 0x2000 = .error .stimulusTooWide := by decide

/-- R84: the items of one line add up; of two that name the same field the later wins (log entry 16). -/
theorem test_line_of_items :
    lineInputs [.rx 1, .tt, .tx 5] = ⟨false, true, 1, true, true, 5⟩ ∧
    lineInputs [.rx 1, .rx 2] = ⟨false, true, 2, false, false, 0⟩ := by decide

/-- R76's example words. -/
theorem test_stimulus_words :
    encodeStimulus 10 (lineInputs [.rst]) = 0x200000 ∧ encodeStimulus 10 (lineInputs [.rx 600]) = 0x100258 ∧
    encodeStimulus 10 (lineInputs [.tx 5, .tt]) = 0x0C1400 ∧ encodeStimulus 1 (lineInputs [.rx 1, .tt]) = 0x0C01 := by
  decide

/-- A table word whose row has the width of its selector, and one given as a whole byte. -/
theorem test_table_words :
    decodeTableWord 4 0b0111 = some (.rxFrameLast 0) ∧ decodeTableWord 6 0b010100 = some .txBit ∧
    decodeTableWord 8 0x12 = some .txFirstBit ∧ decodeTableWord 8 0x40 = none := by decide

/-- A placed word is what the next cycle performs: RX_FRAME_LAST, TX_END, DEMOD_FROM_HIGH. -/
theorem test_withFetchWord :
    .rxFrameLast 0 ∈ (s10.withFetchWord 4 0b0111).operations ∧ .txEnd ∈ (s10.withFetchWord 6 0b010101).operations ∧
    .demodFromHigh 0 ∈ (s10.withFetchWord 1 0b1).operations := by decide

/-! ## One cycle of each operation -/

/-- D1 to D5 and D12 to D14, D17, D20, D21: (`THRESHOLD`, `ps`, `s`, result) from LOW. -/
theorem test_demod_from_low :
    [(100, 500, 599, false), (100, 500, 600, true), (100, 500, 601, true), (100, 500, 500, false),
     (100, 500, 0, false), (100, 1000, 1023, false), (100, 0, 100, true), (100, 0, 99, false), (0, 500, 500, true),
     (1, 0, 1, true), (1, 0, 0, false), (1023, 0, 1023, true)].all
      (fun v => (after [.rx v.2.2.1] { s10 with build := ⟨10, v.1, 1, .both⟩, prevSample := v.2.1 }).prevSymbol
        == v.2.2.2) = true := by decide

/-- D6 to D11, D15, D18, D19, D22, D23: (`THRESHOLD`, `ps`, `s`, result) from HIGH. -/
theorem test_demod_from_high :
    [(100, 500, 401, true), (100, 500, 400, false), (100, 500, 399, false), (100, 500, 500, true),
     (100, 500, 1023, true), (100, 50, 0, true), (0, 500, 500, false), (1, 1, 0, false), (1, 1, 1, true),
     (1023, 1023, 1, true), (1023, 1023, 0, false)].all
      (fun v => (after [.rx v.2.2.1]
          { s10 with build := ⟨10, v.1, 1, .both⟩, prevSample := v.2.1, prevSymbol := HIGH }).prevSymbol
        == v.2.2.2) = true := by decide

/-- The decision is shown and the registers are kept. -/
theorem test_demod_operation_writes_no_register :
    (match exec (.demodFromLow 600) { s10 with prevSample := 500 } with
      | .next t => (t.decided, t.prevSymbol, t.prevSample) | _ => (none, true, 0)) = (some HIGH, LOW, 500) := by decide

/-- D26: a cycle without a tick keeps the Demodulator's registers, and the strobes fall. -/
theorem test_rxWait :
    let t := after [.nop] { s10 with prevSample := 500, prevSymbol := HIGH, rxSync := true }
    (t.prevSample, t.prevSymbol, t.rxSync, t.rxValid) = (500, HIGH, false, false) := by decide

/-- S1, S5 with `THRESHOLD` = 1 and a LOW sample from HIGH: the match starts a frame. -/
theorem test_rxScanTick_match :
    scanned (after [.rx 0] { s1 with scanAcc := 0x59#8 }) = (0xB2#8, .frame, true, false) ∧
    scanned (after [.rx 0] { s1 with scanAcc := 0xD9#8, prevSample := 1, prevSymbol := HIGH })
      = (0xB2#8, .frame, true, false) ∧
    (after [.rx 0] { s1 with scanAcc := 0x59#8, payAcc := 0xFF#8, payCount := 5#3 }).payAcc = 0#8 := by decide

/-- S2, S3, S4, S6, S7, S8. -/
theorem test_rxScanTick_no_match :
    scanned (after [.rx 1] { s1 with scanAcc := 0x59#8 }) = (0xB3#8, .scan, false, false) ∧
    scanned (after [.rx 0] { s1 with scanAcc := 0xB2#8 }) = (0x64#8, .scan, false, false) ∧
    scanned (after [.rx 1] { s1 with scanAcc := 0xB2#8 }) = (0x65#8, .scan, false, false) ∧
    scanned (after [.rx 0] s1) = (0x00#8, .scan, false, false) ∧
    scanned (after [.rx 1] { s1 with scanAcc := 0xFF#8 }) = (0xFF#8, .scan, false, false) ∧
    scanned (after [.rx 0] { s1 with scanAcc := 0x80#8 }) = (0x00#8, .scan, false, false) := by decide

/-- F1, F2, F3. -/
theorem test_rxFrameTick :
    framed (after [.rx 1] (framing 0x00#8 0#3)) = (0x01#8, 1#3, 0#8, false, .frame) ∧
    framed (after [.rx 0] (framing 0x01#8 1#3)) = (0x02#8, 2#3, 0#8, false, .frame) ∧
    framed (after [.rx 0] (framing 0x20#8 6#3)) = (0x40#8, 7#3, 0#8, false, .frame) ∧
    (after [.rx 0] (framing 0x20#8 6#3)).scanAcc = 0xB2#8 := by decide

/-- F4 to F7. -/
theorem test_rxFrameLast :
    framed (after [.rx 1] (framing 0x02#8 7#3)) = (0x05#8, 0#3, 0x05#8, true, .scan) ∧
    framed (after [.rx 1] (framing 0x7F#8 7#3)) = (0xFF#8, 0#3, 0xFF#8, true, .scan) ∧
    framed (after [.rx 0] (framing 0x00#8 7#3)) = (0x00#8, 0#3, 0x00#8, true, .scan) ∧
    framed (after [.rx 0] (framing 0x59#8 7#3)) = (0xB2#8, 0#3, 0xB2#8, true, .scan) ∧
    (after [.rx 0] (framing 0x59#8 7#3)).rxSync = false := by decide

/-- R230's example and its corner case: a reset in the middle of a frame clears `rx_byte`. -/
theorem test_rxReset :
    let t := after [.rst, .rx 1] { framing 0x20#8 6#3 with rxByte := 0x41#8, prevSample := 1, prevSymbol := HIGH }
    scanned t = (0x00#8, .scan, false, false) ∧ framed t = (0#8, 0#3, 0#8, false, .scan) ∧
      (t.prevSample, t.prevSymbol) = (0, LOW) := by decide

/-- R231's example: `TX 5`, `TT`, `RST`. -/
theorem test_txReset : sent (after [.rst, .tx 9, .tt] (sending 1#5)) = (.idle, 0#5, LOW, 0x0000#16) := by decide

/-- M1, and a tick while idle does nothing more. -/
theorem test_txIdle :
    sent (after [.nop] s1) = (.idle, 0#5, LOW, 0#16) ∧ sent (after [.tt] s1) = (.idle, 0#5, LOW, 0#16) := by decide

/-- M2, M3. -/
theorem test_txCapture :
    sent (after [.tx 0x05] s1) = (.armed, 0#5, LOW, 0xB205#16) ∧
    sent (after [.tx 0x05, .tt] s1) = (.armed, 0#5, LOW, 0xB205#16) := by decide

/-- M4, and a request while armed is ignored. -/
theorem test_txArmedWait :
    sent (after [.nop] armed) = (.armed, 0#5, LOW, 0xB205#16) ∧
    sent (after [.tx 9] armed) = (.armed, 0#5, LOW, 0xB205#16) := by decide

/-- M5. -/
theorem test_txFirstBit : sent (after [.tt] armed) = (.send, 1#5, HIGH, 0xB205#16) := by decide

/-- M9. -/
theorem test_txSendWait : sent (after [.tx 9] (sending 5#5)) = (.send, 5#5, (sending 5#5).lineOut, 0xB205#16) := by
  decide

/-- M6, M7, M10. -/
theorem test_txBit :
    sent (after [.tt] (sending 13#5)) = (.send, 14#5, HIGH, 0xB205#16) ∧
    sent (after [.tt] (sending 15#5)) = (.send, 16#5, HIGH, 0xB205#16) ∧
    sent (after [.tx 9, .tt] (sending 5#5)) = (.send, 6#5, LOW, 0xB205#16) := by decide

/-- M8, M11, M13. -/
theorem test_txEnd :
    sent (after [.tt] (sending 16#5)) = (.idle, 0#5, LOW, 0xB205#16) ∧
    sent (after [.tx 9, .tt] (sending 16#5)) = (.idle, 0#5, LOW, 0xB205#16) ∧
    sent (after [.tt] (sending 20#5)) = (.idle, 0#5, LOW, 0xB205#16) := by decide

/-- M12. -/
theorem test_txRecover :
    sent (after [.nop] { sending 7#5 with txState := .reserved }) = (.idle, 0#5, LOW, 0xB205#16) ∧
    sent (after [.tx 9, .tt] { sending 7#5 with txState := .reserved }) = (.idle, 0#5, LOW, 0xB205#16) := by decide

/-- P3, cycle 18: the receiver's last tick and the transmitter's end fall in one cycle, on one value of the line. -/
theorem test_both_paths_in_one_cycle :
    let s := { framing 0x59#8 7#3 with txState := .send, txIndex := 16#5 }
    ops [.rx 0, .tt] s = [.demodFromLow 0, .rxFrameLast 0, .txEnd] ∧
      (after [.rx 0, .tt] s).rxByte = 0xB2#8 ∧ (after [.rx 0, .tt] s).txState = .idle := by decide

/-- An instance with one path performs that path's operations alone and has that path's ports alone (R4). -/
theorem test_one_path :
    ops [.rx 0, .tt] { s1 with build := ⟨1, 1, 1, .rxOnly⟩ } = [.demodFromLow 0, .rxScanTick 0] ∧
    ops [.rx 0, .tt] { s1 with build := ⟨1, 1, 1, .txOnly⟩ } = [.txIdle] ∧
    (State.txPorts { s1 with build := ⟨1, 1, 1, .rxOnly⟩ }).isNone = true ∧
    (State.rxPorts { s1 with build := ⟨1, 1, 1, .txOnly⟩ }).isNone = true := by decide

/-! ## The collaborators -/

/-- E6: (`tuned_channel`, `last_decoded_channel`, OPEN). -/
theorem test_gate :
    [(1, 1, true), (1, 0, true), (1, 2, false), (9, 9, true), (9, 0, true), (5, 10, false), (5, 255, false),
     (3, 178, false)].all (fun v => (gateOf v.1 (BitVec.ofNat 8 v.2.1) == .opened) == v.2.2) = true := by decide

/-- E5, and E7's step 3. -/
theorem test_toggle :
    (Controller.toggle ⟨9, 2⟩).tuned = 1 ∧ (Controller.toggle ⟨1, 2⟩).tuned = 2 ∧
    (Controller.gate ⟨1, 2⟩ == .closed) = true ∧ ((Controller.toggle ⟨1, 2⟩).gate == .opened) = true := by decide

/-- R196: the byte is stored in the cycle that shows `rx_valid` = 1. -/
theorem test_controller_stores :
    (Controller.observe (State.rxPorts { s1 with rxValid := true, rxByte := 7#8 }) ⟨1, 2⟩).lastDecoded = 7#8 ∧
    (Controller.observe (State.rxPorts { s1 with rxByte := 7#8 }) ⟨1, 2⟩).lastDecoded = 2#8 := by decide

/-! ## Witnesses: each meets the hypotheses of the statement it names -/

theorem test_witness_RxScanTick :
    shift8 0x59#8 (demod 1 LOW 0 0) = 0xB2#8 ∧ shift8 0x59#8 (demod 1 LOW 0 1) ≠ 0xB2#8 := by decide

theorem test_witness_RxFrameTick :
    (framing 0#8 0#3).payCount.toNat ≤ 6 ∧ (framing 0#8 6#3).payCount.toNat ≤ 6 ∧
    (match exec (.rxScanTick 0) { s1 with scanAcc := 0x59#8 } with | .next t => t.rxSync | _ => false) = true ∧
    (lineInputs [.rx 1]).rst = false ∧ (lineInputs [.rx 1]).rxTick = true := by decide

theorem test_witness_RxFrameLast : shift8 0x02#8 (demod 1 LOW 0 1) = 0x05#8 := by decide

theorem test_witness_TxIdle : s1.txState = .idle := by decide

theorem test_witness_TxBit :
    (sending 0#5).txIndex.toNat ≤ 15 ∧ (sending 1#5).txIndex.toNat ≤ 15 ∧ (sending 15#5).txIndex.toNat ≤ 15 := by
  decide

theorem test_witness_EverySelectorValue :
    15 < 2 ^ formatWidth .rxsel ∧ 63 < 2 ^ formatWidth .txsel ∧ 1 < 2 ^ formatWidth .dmsel ∧
      1023 < (if Format.rxsel = .txsel then 2 ^ 8 else 2 ^ 10) ∧ 1023 < (if Format.dmsel = .txsel then 2 ^ 8 else 2 ^ 10) ∧
      255 < (if Format.txsel = .txsel then 2 ^ 8 else 2 ^ 1) := by decide

theorem test_witness_StimulusWord :
    (lineInputs [.rx 1023]).sampleIn < 2 ^ 10 ∧ 0x3FFFFF < 2 ^ (10 + 12) ∧ 2 ^ (10 + 12) ≤ 0x400000 := by decide

theorem test_witness_EncodedOperation :
    Instr.wellFormed s10.build (.rxScanTick 1023) = true ∧ Instr.wellFormed s10.build (.txCapture 255) = true ∧
      Instr.wellFormed s10.build (.demodFromHigh 0) = true := by decide

/-- `StepRunsTheSelectedOperations`: a receiver tick on an instance with both paths. -/
theorem test_witness_Step :
    let s := s1.drive (lineInputs [.rx 1, .tx 5])
    s.build.paths.includeRx = true ∧ s.inputs.rxTick = true ∧ s.inputs.rst = false ∧
    s.build.paths.includeTx = true ∧
    ∃ t1 t2 t3 : State, exec (decodeDmsel (dmselWord s.prevSymbol) s.sampleIn) s.beginCycle = .next t1 ∧
      exec (decodeRxsel (rxselWord s.inputs.rst s.inputs.rxTick s.rxMode (s.payCount == 7#3)) s.sampleIn) t1
        = .next t2 ∧
      exec (decodeTxsel (txselWord s.inputs.rst s.inputs.txTick s.inputs.txStart s.txState
        (decide (16 ≤ s.txIndex.toNat))) s.inputs.txData) t2 = .next t3 :=
  ⟨rfl, rfl, rfl, rfl, _, _, _, rfl, rfl, rfl⟩

/-- `StepRunsTheSelectedOperations` and `EveryCycleCompletes`: the paths an instance may lack. -/
theorem test_witness_paths :
    Paths.includeRx .txOnly = false ∧ Paths.includeTx .txOnly = true ∧ Paths.includeRx .rxOnly = true ∧
      Paths.includeTx .rxOnly = false := by decide

/-- `EveryReceiverTickWritesBack`, `StrobesMarkMatchAndByte`, `ByteIsNewWhenValidAndStickyElse`, `ScanAccFreeRuns`,
`EveryStepKeepsLegal`, `EveryStepKeepsCoherent`: a receiver's cycle with a tick, one without and a reset, each with its
next state; the strobes that come of them. -/
theorem test_witness_cycles :
    s1.build.paths.includeRx = true ∧
    (∀ items ∈ [[Item.rx 1], [.nop], [.rst, .rx 1]], runs items s1 = true) ∧
    (after [.rx 0] { s1 with scanAcc := 0x59#8 }).rxSync = true ∧
    (after [.rx 1] (framing 0x02#8 7#3)).rxValid = true ∧ (after [.nop] s1).rxValid = false ∧
    (s1.drive (lineInputs [.rx 1])).inputs.rxTick = true ∧ (s1.drive (lineInputs [.rx 1])).inputs.rst = false ∧
    (s1.drive (lineInputs [.nop])).inputs.rxTick = false ∧ (s1.drive (lineInputs [.rst, .rx 1])).inputs.rst = true := by
  decide

theorem test_witness_FrameEnds :
    (framing 0x02#8 7#3).build.paths.includeRx = true ∧ (framing 0x02#8 7#3).rxMode = .frame ∧
    ([[.rx 1], [.nop], [.rst]].all fun items => runs items (framing 0x02#8 7#3)) = true ∧
    (after [.rx 1] (framing 0x02#8 7#3)).rxMode = .scan ∧ (after [.nop] (framing 0x02#8 7#3)).rxMode = .frame := by
  decide

theorem test_witness_ResetOverrides :
    (lineInputs [.rst, .rx 1, .tt, .tx 5]).rst = true ∧ b1.paths.includeRx = true ∧ b1.paths.includeTx = true := by
  decide

theorem test_witness_RequestTaken :
    (sending 16#5).txState ≠ .idle ∧ armed.txState ≠ .idle ∧ s1.build.paths.includeTx = true ∧ s1.txState = .idle ∧
      (lineInputs [.tx 0, .tt]).rst = false ∧ (lineInputs [.tx 0, .tt]).txStart = true := by decide

/-- `OnlyEffectiveInputsMatter`: two different inputs that agree where they have an effect, idle, sending and in
reset. -/
theorem test_witness_OnlyEffectiveInputs :
    let i : Inputs := ⟨false, false, 3, true, false, 9⟩
    let j : Inputs := ⟨false, false, 5, false, false, 7⟩
    i ≠ j ∧ i.rst = j.rst ∧ i.rst = false ∧ i.rxTick = j.rxTick ∧ i.rxTick = false ∧ s1.txState = .idle ∧
    i.txStart = j.txStart ∧ i.txStart = false ∧
    (i.rxTick = true → i.sampleIn % 2 ^ s1.build.sampleBits = j.sampleIn % 2 ^ s1.build.sampleBits) ∧
    (s1.txState = .armed ∨ s1.txState = .send → i.txTick = j.txTick) ∧
    (s1.txState = .idle → i.txStart = j.txStart ∧ (i.txStart = true → i.txData = j.txData)) := by decide

/-- `PathsAreIndependent`: states that agree in the receiver and differ in the transmitter, and the other way. -/
theorem test_witness_PathsAreIndependent :
    s1.build = (sending 5#5).build ∧ s1.sameReceiver (sending 5#5) ∧ ¬ s1.sameTransmitter (sending 5#5) ∧
    s1.sameTransmitter (framing 1#8 1#3) ∧ runs [.rx 1] s1 = true ∧ runs [.rx 1] (sending 5#5) = true ∧
    runs [.rx 1] (framing 1#8 1#3) = true := by
  unfold State.sameReceiver State.sameTransmitter
  decide

theorem test_witness_Legal : s10.Legal ∧ Reachable s10 :=
  ⟨⟨by decide, by decide, by decide, by decide, by decide, by decide, by decide, by decide, by decide⟩,
    Reachable.reset b10 (by decide)⟩

theorem test_witness_Coherent : s10.Coherent :=
  ⟨by decide, by decide, by decide, by decide, by decide, by decide, by decide⟩

/-- `EveryStepKeepsLegal` and `EveryStepKeepsCoherent` away from reset: both paths in the middle of a frame. -/
theorem test_witness_Legal_and_Coherent_mid_frame :
    let s := { sending 5#5 with rxMode := .frame, scanAcc := 0xB2#8, payAcc := 1#8, payCount := 1#3 }
    s.Legal ∧ s.Coherent ∧ runs [.rx 1, .tt] s = true :=
  ⟨⟨by decide, by decide, by decide, by decide, by decide, by decide, by decide, by decide, by decide⟩,
    ⟨by decide, by decide, by decide, by decide, by decide, by decide, by decide⟩, by decide⟩

theorem test_witness_ComparisonsDoNotWrap : 1023 < 2 ^ 10 ∧ 0 < 2 ^ 10 := by decide

theorem test_witness_ZeroThreshold : 0 < 6 ∧ 5 < 6 := by decide

/-- `TwoLevelLineIsFollowed`: the narrowest line, a line idling at `THRESHOLD`, and the small changes of (e). -/
theorem test_witness_TwoLevelLine :
    1 ≤ 1 ∧ 0 + 1 ≤ 1 ∧ 100 + 100 ≤ 200 ∧ 100 ≤ 100 ∧ 599 < 500 + 100 ∧ 500 < 401 + 100 ∧
    [LOW, HIGH][1]? = some HIGH ∧ ((LOW :: [LOW, HIGH])[1]? ≠ [LOW, HIGH][1]?) := by decide

theorem test_witness_ScanAccHolds :
    s1.build.paths.includeRx = true ∧ noReset [lineInputs [.rx 1], lineInputs [.nop]] = true := by decide

/-- `FramerAssemblesTheByte`: no tick, seven ticks and eight ticks. -/
theorem test_witness_Framer :
    (framing 0xFF#8 0#3).build.paths.includeRx = true ∧ (framing 0xFF#8 0#3).rxMode = .frame ∧
    (framing 0xFF#8 0#3).payCount = 0#3 ∧ noReset (List.replicate 8 (lineInputs [.rx 1])) = true ∧
    (tickSamples 1 [lineInputs [.nop]]).length < 8 ∧
    (tickSamples 1 (List.replicate 7 (lineInputs [.rx 1]))).length < 8 ∧
    (tickSamples 1 (List.replicate 8 (lineInputs [.rx 1]))).length = 8 ∧
    ((List.replicate 8 (lineInputs [.rx 1])).getLast?.map (·.rxTick)) = some true := by decide

theorem test_witness_Preamble :
    1 ≤ (2 : Fin 8).val ∧ (0x2C#8).extractLsb' 0 6 = 0b101100#6 ∧ 1 ≤ (7 : Fin 8).val := by decide

/-- `TransmitterDrivesTheWholeFrame`: no tick, one tick, sixteen ticks, then the 17th. -/
theorem test_witness_Transmitter :
    armed.build.paths.includeTx = true ∧ armed.txState = .armed ∧ armed.txIndex = 0#5 ∧ armed.lineOut = LOW ∧
    noReset (List.replicate 16 (lineInputs [.tt, .tx 9])) = true ∧ txTicks [lineInputs [.nop]] = 0 ∧
    txTicks [lineInputs [.tt]] = 1 ∧ txTicks (List.replicate 16 (lineInputs [.tt, .tx 9])) = 16 ∧
    (lineInputs [.tt]).rst = false ∧ (lineInputs [.tt]).txTick = true := by decide

/-- `QuietCyclesChangeOnlyStrobes` from `s10`, which `test_witness_Legal` shows legal. -/
theorem test_witness_Quiet :
    (∀ i ∈ [lineInputs [.nop], lineInputs [.nop]],
      i.rst = false ∧ i.rxTick = false ∧ i.txTick = false ∧ i.txStart = false) ∧
    [lineInputs [.nop], lineInputs [.nop]] ≠ [] := by decide

/-- `LoopbackRoundTrip`: the state after `TX 0xB2` and the first bit, on the narrowest ideal channel. -/
theorem test_witness_Loopback :
    let s := { s1 with txState := .send, txIndex := 1#5, txFrame := (0xB2#8 ++ 0xB2#8 : BitVec (8 + 8)), lineOut := HIGH }
    s.build.wellFormed = true ∧ s.build.paths = .both ∧ idealChannel s.build 0 1 = true ∧ s.txState = .send ∧
    s.txIndex = 1#5 ∧ s.txFrame = (0xB2#8 ++ 0xB2#8 : BitVec (8 + 8)) ∧ s.lineOut = HIGH ∧ s.rxMode = .scan ∧ s.prevSample = 0 ∧
    s.scanAcc.extractLsb' 0 6 ≠ 0b101100#6 ∧ (List.replicate 16 LoopCycle.tick).count .tick = 16 ∧
    (.wait :: List.replicate 16 LoopCycle.tick).count .tick = 16 ∧
    ∀ b : Byte, LoopCycle.request b ∉ .wait :: List.replicate 16 LoopCycle.tick := by
  refine ⟨by decide, by decide, by decide, by decide, by decide, by decide, by decide, by decide, by decide, by decide,
    by decide, by decide, ?_⟩
  simp

theorem test_witness_LoopbackAfterReset :
    b10.wellFormed = true ∧ b10.paths = .both ∧ idealChannel b10 200 700 = true := by decide

/-- `LoopbackFramesOneAfterAnother`: two frames back to back after reset, on an idle line that reads HIGH. -/
theorem test_witness_LoopbackFrames :
    s10.build.wellFormed = true ∧ s10.build.paths = .both ∧ idealChannel s10.build 200 700 = true ∧
    s10.txState = .idle ∧ s10.rxMode = .scan ∧ s10.symbolOf 200 = HIGH ∧
    shift8 s10.scanAcc (s10.symbolOf 200) ≠ 0xB2#8 ∧
    (shift8 s10.scanAcc (s10.symbolOf 200)).extractLsb' 0 6 ≠ 0b101100#6 ∧
    17 ≤ (List.replicate 17 LoopCycle.tick).count .tick ∧
    ∀ b : Byte, LoopCycle.request b ∉ List.replicate 17 LoopCycle.tick := by
  refine ⟨by decide, by decide, by decide, by decide, by decide, by decide, by decide, by decide, by decide, ?_⟩
  simp

theorem test_witness_Digits :
    (0x30 ≤ 0x30 ∧ 0x30 ≤ 0x39) ∧ (0x30 ≤ 0x39 ∧ 0x39 ≤ 0x39) ∧ ¬ (0x30 ≤ 0x2F ∧ 0x2F ≤ 0x39) ∧
    ¬ (0x30 ≤ 0x3A ∧ 0x3A ≤ 0x39) ∧ channelOfChar 0x30 = some 0 ∧ channelOfChar 0x39 = some 9 ∧
    channelOfChar 0x2F = none ∧ channelOfChar 0x3A = none := by decide

theorem test_witness_Toggle :
    1 ≤ (Controller.mk 1 0).tuned ∧ (Controller.mk 1 0).tuned ≤ 9 ∧ (Controller.mk 1 0).tuned < 9 ∧
    (Controller.mk 9 0).tuned = 9 := by decide

theorem test_witness_ControllerFollows : (Node.mk s1 ⟨1, 0⟩).core.build.paths.includeRx = true := by decide

theorem test_witness_Link : (Link.mk s1 [⟨s10, ⟨1, 0⟩⟩]).receivers[0]? = some ⟨s10, ⟨1, 0⟩⟩ := by decide

end Sys2Proof.Tests
end

section
/-! Performing operations and cycles as total functions of the state, the separation of the two paths' registers, and
the statements about a cycle as a whole (spec/00_scope.md R4, R10, R13; spec/20_memory.md R59, R64). -/

namespace Sys2Proof.Machine

/-! ## Every operation and every cycle has a next state -/

/-- The state an operation leaves; `exec_eq_next` ties it to `exec`. -/
def State.perform (s : State) (i : Instr) : State :=
  match exec i s with
  | .next t => t
  | .fault _ => s
  | .refused _ => s

theorem exec_eq_next (i : Instr) (s : State) : exec i s = .next (s.perform i) := by
  cases i <;> rfl

theorem execAll_eq_next (ops : List Instr) (s : State) : execAll ops s = .next (ops.foldl State.perform s) := by
  induction ops generalizing s with
  | nil => rfl
  | cons i rest ih => rw [execAll_cons_of_next (exec_eq_next i s), ih, List.foldl_cons]

/-- The receiver's share of the current cycle's operations (R79, R103). -/
def State.rxOperations (s : State) : List Instr :=
  if s.build.paths.includeRx then
    (if s.decides then [s.dmOperation, s.rxOperation] else [s.rxOperation]) else []

/-- The transmitter's share of the current cycle's operations. -/
def State.txOperations (s : State) : List Instr :=
  if s.build.paths.includeTx then [s.txOperation] else []

theorem operations_eq_append (s : State) : s.operations = s.rxOperations ++ s.txOperations := rfl

theorem step_eq_next (s : State) :
    step s = .next (s.txOperations.foldl State.perform (s.rxOperations.foldl State.perform s.beginCycle)).endCycle := by
  apply step_of_execAll
  rw [execAll_eq_next, operations_eq_append, List.foldl_append]

/-! ## Which path an operation belongs to -/

/-- Whether an operation is one of the receiver's, the Demodulator's decisions among them, or one of the
transmitter's (R77 to R79). -/
def isReceiver : Instr → Bool
  | .rxReset | .rxWait | .rxScanTick _ | .rxFrameTick _ | .rxFrameLast _ | .demodFromHigh _ | .demodFromLow _ => true
  | .txReset | .txIdle | .txCapture _ | .txArmedWait | .txFirstBit | .txSendWait | .txBit | .txEnd | .txRecover => false

theorem isReceiver_decodeRxsel (sel : BitVec 4) (x : Nat) : isReceiver (decodeRxsel sel x) = true := by
  unfold decodeRxsel
  split <;> rfl

theorem isReceiver_decodeDmsel (sel : BitVec 1) (x : Nat) : isReceiver (decodeDmsel sel x) = true := by
  unfold decodeDmsel
  split <;> rfl

theorem isReceiver_decodeTxsel (sel : BitVec 6) (d : Byte) : isReceiver (decodeTxsel sel d) = false := by
  unfold decodeTxsel
  split <;> rfl

theorem isReceiver_of_mem_rxOperations {s : State} {i : Instr} (h : i ∈ s.rxOperations) : isReceiver i = true := by
  have hd : isReceiver s.dmOperation = true := isReceiver_decodeDmsel _ _
  have hr : isReceiver s.rxOperation = true := isReceiver_decodeRxsel _ _
  unfold State.rxOperations at h
  split at h
  · split at h
    · obtain rfl | rfl := by simpa using h
      · exact hd
      · exact hr
    · obtain rfl := by simpa using h
      exact hr
  · cases h

theorem isReceiver_of_mem_txOperations {s : State} {i : Instr} (h : i ∈ s.txOperations) : isReceiver i = false := by
  unfold State.txOperations at h
  split at h
  · obtain rfl := by simpa using h
    exact isReceiver_decodeTxsel _ _
  · cases h

/-! ## Each path's operations read and write that path's registers alone -/

/-- `u` with the receiver of `s`: its registers, and the parameters and the record of the decision beside them. -/
def State.withReceiverOf (u s : State) : State :=
  { u with
    build := s.build
    prevSample := s.prevSample
    prevSymbol := s.prevSymbol
    scanAcc := s.scanAcc
    rxMode := s.rxMode
    payAcc := s.payAcc
    payCount := s.payCount
    rxByte := s.rxByte
    rxSync := s.rxSync
    rxValid := s.rxValid
    decided := s.decided }

/-- `u` with the transmitter registers of `s`. -/
def State.withTransmitterOf (u s : State) : State :=
  { u with txState := s.txState, txFrame := s.txFrame, txIndex := s.txIndex, lineOut := s.lineOut }

/-- The two paths share no register (R64). -/
theorem withReceiverOf_withTransmitterOf (u r t : State) :
    (u.withTransmitterOf t).withReceiverOf r = (u.withReceiverOf r).withTransmitterOf t := rfl

theorem withReceiverOf_eq_self {s u : State} (hb : s.build = u.build) (hd : s.decided = u.decided)
    (h : s.sameReceiver u) : u.withReceiverOf s = u := by
  obtain ⟨h1, h2, h3, h4, h5, h6, h7, h8, h9⟩ := h
  simp only [State.withReceiverOf, hb, hd, h1, h2, h3, h4, h5, h6, h7, h8, h9]

theorem withTransmitterOf_eq_self {s u : State} (h : s.sameTransmitter u) : u.withTransmitterOf s = u := by
  obtain ⟨h1, h2, h3, h4⟩ := h
  simp only [State.withTransmitterOf, h1, h2, h3, h4]

theorem perform_rxScanTick (s : State) (x : Nat) :
    s.perform (.rxScanTick x) =
      if shift8 s.scanAcc (s.symbolOf x) = Config.preamble then
        (((s.demodTick x).setScanAcc (shift8 s.scanAcc (s.symbolOf x))).startFrame).setStrobes true false
      else ((s.demodTick x).setScanAcc (shift8 s.scanAcc (s.symbolOf x))).setStrobes false false := rfl

/-- A receiver operation does to the receiver what it does there with any other transmitter beside it, and nothing to
the transmitter. -/
theorem perform_withReceiverOf {i : Instr} (hi : isReceiver i = true) (u s : State) :
    (u.withReceiverOf s).perform i = u.withReceiverOf (s.perform i) := by
  cases i with
  | rxReset | rxWait | rxFrameTick | rxFrameLast | demodFromHigh | demodFromLow => rfl
  | rxScanTick x =>
    have hacc : shift8 (u.withReceiverOf s).scanAcc ((u.withReceiverOf s).symbolOf x) =
      shift8 s.scanAcc (s.symbolOf x) := rfl
    rw [perform_rxScanTick, perform_rxScanTick, hacc]
    split <;> rfl
  | txReset | txIdle | txCapture | txArmedWait | txFirstBit | txSendWait | txBit | txEnd | txRecover => cases hi

/-- A transmitter operation does to the transmitter what it does there with any other receiver beside it, and nothing to
the receiver. -/
theorem perform_withTransmitterOf {i : Instr} (hi : isReceiver i = false) (u s : State) :
    (u.withTransmitterOf s).perform i = u.withTransmitterOf (s.perform i) := by
  cases i with
  | txReset | txIdle | txCapture | txArmedWait | txFirstBit | txSendWait | txBit | txEnd | txRecover => rfl
  | rxReset | rxWait | rxScanTick | rxFrameTick | rxFrameLast | demodFromHigh | demodFromLow => cases hi

/-- A receiver operation and a transmitter operation give the same state in either order (R59, R64). -/
theorem perform_comm {i j : Instr} (hi : isReceiver i = true) (hj : isReceiver j = false) (s : State) :
    (s.perform i).perform j = (s.perform j).perform i := by
  have hri : s.perform i = (s.withReceiverOf (s.perform i)).withTransmitterOf s := perform_withReceiverOf hi s s
  have htj : s.perform j = (s.withTransmitterOf (s.perform j)).withReceiverOf s := perform_withTransmitterOf hj s s
  calc (s.perform i).perform j
      = ((s.withReceiverOf (s.perform i)).withTransmitterOf s).perform j := congrArg (·.perform j) hri
    _ = (s.withReceiverOf (s.perform i)).withTransmitterOf (s.perform j) := perform_withTransmitterOf hj _ _
    _ = (s.withTransmitterOf (s.perform j)).withReceiverOf (s.perform i) :=
        (withReceiverOf_withTransmitterOf _ _ _).symm
    _ = ((s.withTransmitterOf (s.perform j)).withReceiverOf s).perform i := (perform_withReceiverOf hi _ _).symm
    _ = (s.perform j).perform i := congrArg (·.perform i) htj.symm

/-- Settles O24: operations of different paths commute one by one. -/
theorem pathWritesCommute : Obligations.PathWritesCommute := by
  intro s rxsel dmsel txsel x d
  have hdm := perform_comm (isReceiver_decodeDmsel dmsel x) (isReceiver_decodeTxsel txsel d)
  have hrx := perform_comm (isReceiver_decodeRxsel rxsel x) (isReceiver_decodeTxsel txsel d)
  simp only [execAll_eq_next, List.foldl_cons, List.foldl_nil]
  exact ⟨by rw [hrx, hdm], by rw [hrx]⟩

/-! ## Runs of one path's operations -/

theorem foldl_perform_withReceiverOf {ops : List Instr} (h : ∀ i ∈ ops, isReceiver i = true) (u s : State) :
    ops.foldl State.perform (u.withReceiverOf s) = u.withReceiverOf (ops.foldl State.perform s) := by
  induction ops generalizing s with
  | nil => rfl
  | cons i rest ih =>
    obtain ⟨hi, hrest⟩ := List.forall_mem_cons.mp h
    rw [List.foldl_cons, List.foldl_cons, perform_withReceiverOf hi, ih hrest]

theorem foldl_perform_withTransmitterOf {ops : List Instr} (h : ∀ i ∈ ops, isReceiver i = false) (u s : State) :
    ops.foldl State.perform (u.withTransmitterOf s) = u.withTransmitterOf (ops.foldl State.perform s) := by
  induction ops generalizing s with
  | nil => rfl
  | cons i rest ih =>
    obtain ⟨hi, hrest⟩ := List.forall_mem_cons.mp h
    rw [List.foldl_cons, List.foldl_cons, perform_withTransmitterOf hi, ih hrest]

theorem sameReceiver_withReceiverOf (s u : State) : s.sameReceiver (u.withReceiverOf s) :=
  ⟨rfl, rfl, rfl, rfl, rfl, rfl, rfl, rfl, rfl⟩

theorem sameTransmitter_withTransmitterOf (s u : State) : s.sameTransmitter (u.withTransmitterOf s) :=
  ⟨rfl, rfl, rfl, rfl⟩

/-- At the end of a cycle put together from its two paths, the receivers compare as the receivers put in. -/
theorem sameReceiver_endCycle_iff (u u' r r' x x' : State) :
    ((u.withReceiverOf r).withTransmitterOf x).endCycle.sameReceiver
      ((u'.withReceiverOf r').withTransmitterOf x').endCycle ↔ r.sameReceiver r' := Iff.rfl

/-- At the end of a cycle put together from its two paths, the transmitters compare as the transmitters put in. -/
theorem sameTransmitter_endCycle_iff (u u' r r' x x' : State) :
    ((u.withReceiverOf r).withTransmitterOf x).endCycle.sameTransmitter
      ((u'.withReceiverOf r').withTransmitterOf x').endCycle ↔ x.sameTransmitter x' := Iff.rfl

/-- A cycle is the receiver's operations and the transmitter's, each performed on the state of the cycle's start
(R13, R59). -/
theorem step_eq_next_paths (s : State) :
    step s = .next ((s.beginCycle.withReceiverOf (s.rxOperations.foldl State.perform s.beginCycle)).withTransmitterOf
      (s.txOperations.foldl State.perform s.beginCycle)).endCycle := by
  have hrx : s.rxOperations.foldl State.perform s.beginCycle =
      (s.beginCycle.withReceiverOf (s.rxOperations.foldl State.perform s.beginCycle)).withTransmitterOf s.beginCycle :=
    foldl_perform_withReceiverOf (fun _ => isReceiver_of_mem_rxOperations) s.beginCycle s.beginCycle
  rw [step_eq_next]
  conv_lhs => rw [hrx]
  rw [foldl_perform_withTransmitterOf (fun _ => isReceiver_of_mem_txOperations)]

/-- A cycle uses its stimulus up, whatever it performs. -/
theorem stimuli_cycle_of_step {s t : State} (h : step s = .next t) :
    t.stimuli = s.stimuli.tail ∧ t.cycle = s.cycle + 1 := by
  rw [step_eq_next_paths] at h
  cases h
  exact ⟨rfl, rfl⟩

/-- The receiver's operations are selected by the receiver's registers and inputs (R77, R79). -/
theorem rxOperations_congr {s s' : State} (hb : s.build = s'.build) (h : s.sameReceiver s')
    (hrst : s.inputs.rst = s'.inputs.rst) (htick : s.inputs.rxTick = s'.inputs.rxTick)
    (hin : s.inputs.sampleIn = s'.inputs.sampleIn) : s.rxOperations = s'.rxOperations := by
  obtain ⟨-, hsymbol, -, hmode, -, hcount, -, -, -⟩ := h
  have hdecides : s.decides = s'.decides := by simp only [State.decides, hrst, htick]
  have hdm : s.dmOperation = s'.dmOperation := by
    simp only [State.dmOperation, State.dmsel, State.sampleIn, hb, hin, hsymbol]
  have hrx : s.rxOperation = s'.rxOperation := by
    simp only [State.rxOperation, State.rxsel, State.rxLast, State.sampleIn, hb, hrst, htick, hin, hmode, hcount]
  simp only [State.rxOperations, hb, hdecides, hdm, hrx]

/-- The transmitter's operation is selected by the transmitter's registers and inputs (R78). -/
theorem txOperations_congr {s s' : State} (hb : s.build = s'.build) (h : s.sameTransmitter s')
    (hrst : s.inputs.rst = s'.inputs.rst) (htick : s.inputs.txTick = s'.inputs.txTick)
    (hstart : s.inputs.txStart = s'.inputs.txStart) (hdata : s.inputs.txData = s'.inputs.txData) :
    s.txOperations = s'.txOperations := by
  obtain ⟨hstate, -, hindex, -⟩ := h
  simp only [State.txOperations, State.txOperation, State.txsel, State.txLast, State.txData, hb, hrst, htick, hstart,
    hdata, hstate, hindex]

/-- The receiver's operations leave equal receivers equal, whatever stands beside them. -/
theorem sameReceiver_foldl_perform {ops : List Instr} (hops : ∀ i ∈ ops, isReceiver i = true) {s s' : State}
    (hb : s.build = s'.build) (hd : s.decided = s'.decided) (h : s.sameReceiver s') :
    (ops.foldl State.perform s).sameReceiver (ops.foldl State.perform s') := by
  have hs' : ops.foldl State.perform s' = s'.withReceiverOf (ops.foldl State.perform s) := by
    rw [← foldl_perform_withReceiverOf hops, withReceiverOf_eq_self hb hd h]
  rw [hs']
  exact sameReceiver_withReceiverOf _ _

/-- The transmitter's operations leave equal transmitters equal, whatever stands beside them. -/
theorem sameTransmitter_foldl_perform {ops : List Instr} (hops : ∀ i ∈ ops, isReceiver i = false) {s s' : State}
    (h : s.sameTransmitter s') :
    (ops.foldl State.perform s).sameTransmitter (ops.foldl State.perform s') := by
  have hs' : ops.foldl State.perform s' = s'.withTransmitterOf (ops.foldl State.perform s) := by
    rw [← foldl_perform_withTransmitterOf hops, withTransmitterOf_eq_self h]
  rw [hs']
  exact sameTransmitter_withTransmitterOf _ _

/-- Settles O33: each path's operations are selected by, and act on, that path's registers and inputs alone. -/
theorem pathsAreIndependent : Obligations.PathsAreIndependent := by
  intro s s' t t' hb ht ht'
  rw [step_eq_next_paths] at ht ht'
  cases ht
  cases ht'
  constructor
  · intro h hrst htick hin
    rw [sameReceiver_endCycle_iff, rxOperations_congr hb h hrst htick hin]
    exact sameReceiver_foldl_perform (fun _ => isReceiver_of_mem_rxOperations) hb rfl h
  · intro h hrst htick hstart hdata
    rw [sameTransmitter_endCycle_iff, txOperations_congr hb h hrst htick hstart hdata]
    exact sameTransmitter_foldl_perform (fun _ => isReceiver_of_mem_txOperations) h

/-! ## The operations of a cycle, selected at its start -/

/-- The decision, where one is made, and then the receiver's operation, of a core that holds the receiver. -/
theorem foldl_perform_rxOperations (s u : State) :
    s.rxOperations.foldl State.perform u =
      if s.build.paths.includeRx then
        (if s.decides then u.perform s.dmOperation else u).perform s.rxOperation
      else u := by
  unfold State.rxOperations
  split
  · split <;> rfl
  · rfl

theorem foldl_perform_txOperations (s u : State) :
    s.txOperations.foldl State.perform u =
      if s.build.paths.includeTx then u.perform s.txOperation else u := by
  unfold State.txOperations
  split <;> rfl

theorem decides_iff (s : State) : s.decides = true ↔ s.inputs.rxTick = true ∧ s.inputs.rst = false := by
  simp [State.decides]

/-- Settles O22: the three operations written out from the selectors are the model's own. -/
theorem stepRunsTheSelectedOperations : Obligations.StepRunsTheSelectedOperations := by
  intro s s1 s2 s3 d r t hd hr ht h1 h2 h3
  obtain rfl : d = s.dmOperation := hd
  obtain rfl : r = s.rxOperation := hr
  obtain rfl : t = s.txOperation := ht
  simp only [← decides_iff, exec_eq_next, Host.Outcome.next.injEq] at h1 h2 h3
  have hrx : s.rxOperations.foldl State.perform s.beginCycle = s2 := by
    rw [foldl_perform_rxOperations]
    by_cases hpath : s.build.paths.includeRx = true
    · have hdecision : (if s.decides then s.beginCycle.perform s.dmOperation else s.beginCycle) = s1 := by
        simp only [hpath, true_and] at h1
        split_ifs at h1 ⊢
        · exact h1
        · exact h1.symm
      rw [if_pos hpath] at h2 ⊢
      rw [hdecision, h2]
    · rw [if_neg fun h => hpath h.1] at h1
      rw [if_neg hpath] at h2 ⊢
      rw [h2, h1]
  have htx : s.txOperations.foldl State.perform s2 = s3 := by
    rw [foldl_perform_txOperations]
    split_ifs at h3 ⊢
    · exact h3
    · exact h3.symm
  have hstep : step s = .next s3.endCycle := by rw [step_eq_next, hrx, htx]
  obtain ⟨hstimuli, hcycle⟩ := stimuli_cycle_of_step hstep
  rw [hstep, ← hstimuli, ← hcycle]
  rfl

/-! ## The Demodulator without a threshold -/

/-- With `THRESHOLD` = 0 a sample equal to the one before fails the strict comparison and meets the inclusive one
(R10, R12). -/
theorem demod_zero_self (sym : Symbol) (p : Nat) : demod 0 sym p p = !sym := by
  cases sym with
  | false => exact (decideFromLow_iff 0 p p).mpr (Nat.le_refl p)
  | true =>
    have h : ¬ decideFromHigh 0 p p = true := by
      rw [decideFromHigh_iff]
      exact Nat.lt_irrefl p
    exact Bool.eq_false_of_not_eq_true h

/-- Settles O39, by induction on the length of the line: each symbol is the one before it, inverted. -/
theorem zeroThresholdToggles : Obligations.ZeroThresholdToggles := by
  intro sym p n k hk
  induction n generalizing sym k with
  | zero => omega
  | succ n ih =>
    rw [List.replicate_succ, symbolsOf, demod_zero_self]
    cases k with
    | zero => rfl
    | succ k =>
      rw [List.getElem?_cons_succ, ih (!sym) k (by omega)]
      rcases Nat.mod_two_eq_zero_or_one k with hpar | hpar
      · simp [hpar, Nat.succ_mod_two_eq_one_iff.mpr hpar]
      · simp [hpar, Nat.succ_mod_two_eq_zero_iff.mpr hpar]

end Sys2Proof.Machine
end

section
/-! What one cycle leaves in each path's registers, the strobes, the ports, the reset state, and the invariants of R40
(spec/10_state.md). -/

namespace Sys2Proof.Machine

/-! ## What a cycle leaves in each path -/

/-- The receiver's rows of R77 as a relation: where each is selected in a cycle that starts in `s`, and what it leaves.
`receiverCycle_perform` ties it to the model. -/
inductive ReceiverCycle (s : State) : State → Prop
  | reset (hrst : s.inputs.rst = true) : ReceiverCycle s s.resetRx
  | wait (hrst : s.inputs.rst = false) (htick : s.inputs.rxTick = false) : ReceiverCycle s (s.setStrobes false false)
  | scanMatch (hrst : s.inputs.rst = false) (htick : s.inputs.rxTick = true) (hmode : s.rxMode = .scan)
      (hacc : shift8 s.scanAcc (s.symbolOf s.sampleIn) = Config.preamble) :
      ReceiverCycle s ((((s.demodTick s.sampleIn).setScanAcc
        (shift8 s.scanAcc (s.symbolOf s.sampleIn))).startFrame).setStrobes true false)
  | scanMiss (hrst : s.inputs.rst = false) (htick : s.inputs.rxTick = true) (hmode : s.rxMode = .scan)
      (hacc : shift8 s.scanAcc (s.symbolOf s.sampleIn) ≠ Config.preamble) :
      ReceiverCycle s (((s.demodTick s.sampleIn).setScanAcc (shift8 s.scanAcc (s.symbolOf s.sampleIn))).setStrobes
        false false)
  | frameTick (hrst : s.inputs.rst = false) (htick : s.inputs.rxTick = true) (hmode : s.rxMode = .frame)
      (hcount : s.payCount ≠ 7#3) :
      ReceiverCycle s (((s.demodTick s.sampleIn).pushPayload (shift8 s.payAcc (s.symbolOf s.sampleIn))).setStrobes
        false false)
  | frameLast (hrst : s.inputs.rst = false) (htick : s.inputs.rxTick = true) (hmode : s.rxMode = .frame)
      (hcount : s.payCount = 7#3) :
      ReceiverCycle s (((s.demodTick s.sampleIn).finishFrame (shift8 s.payAcc (s.symbolOf s.sampleIn))).setStrobes
        false true)

/-- The transmitter's rows of R78 as a relation: where each is selected in a cycle that starts in `s`, and what it
leaves. `transmitterCycle_perform` ties it to the model. -/
inductive TransmitterCycle (s : State) : State → Prop
  | reset (hrst : s.inputs.rst = true) : TransmitterCycle s s.resetTx
  | idle (hrst : s.inputs.rst = false) (hstate : s.txState = .idle) (hstart : s.inputs.txStart = false) :
      TransmitterCycle s (s.setLine LOW)
  | capture (hrst : s.inputs.rst = false) (hstate : s.txState = .idle) (hstart : s.inputs.txStart = true) :
      TransmitterCycle s (s.captureFrame s.txData)
  | armedWait (hrst : s.inputs.rst = false) (hstate : s.txState = .armed) (htick : s.inputs.txTick = false) :
      TransmitterCycle s s
  | firstBit (hrst : s.inputs.rst = false) (hstate : s.txState = .armed) (htick : s.inputs.txTick = true) :
      TransmitterCycle s s.startSending
  | sendWait (hrst : s.inputs.rst = false) (hstate : s.txState = .send) (htick : s.inputs.txTick = false) :
      TransmitterCycle s s
  | bit (hrst : s.inputs.rst = false) (hstate : s.txState = .send) (htick : s.inputs.txTick = true)
      (hindex : s.txIndex.toNat < 16) : TransmitterCycle s s.sendBit
  | last (hrst : s.inputs.rst = false) (hstate : s.txState = .send) (htick : s.inputs.txTick = true)
      (hindex : 16 ≤ s.txIndex.toNat) : TransmitterCycle s s.goIdle
  | recover (hrst : s.inputs.rst = false) (hstate : s.txState = .reserved) : TransmitterCycle s s.goIdle

theorem rxLast_iff (s : State) : s.rxLast = true ↔ s.payCount = 7#3 := beq_iff_eq

theorem txLast_iff (s : State) : s.txLast = true ↔ 16 ≤ s.txIndex.toNat := decide_eq_true_iff

/-- The receiver's selected operation does what its row says. -/
theorem receiverCycle_perform (s : State) : ReceiverCycle s (s.perform s.rxOperation) := by
  rw [State.rxOperation, State.rxsel, decodeRxsel_rxselWord]
  cases hrst : s.inputs.rst with
  | true => exact .reset hrst
  | false =>
    cases htick : s.inputs.rxTick with
    | false => exact .wait hrst htick
    | true =>
      cases hmode : s.rxMode with
      | scan =>
        change ReceiverCycle s (s.perform (.rxScanTick s.sampleIn))
        rw [perform_rxScanTick]
        split
        next hacc => exact .scanMatch hrst htick hmode hacc
        next hacc => exact .scanMiss hrst htick hmode hacc
      | frame =>
        cases hlast : s.rxLast with
        | true => exact .frameLast hrst htick hmode ((rxLast_iff s).mp hlast)
        | false => exact .frameTick hrst htick hmode fun hcount => by simp [(rxLast_iff s).mpr hcount] at hlast

/-- The transmitter's selected operation does what its row says. -/
theorem transmitterCycle_perform (s : State) : TransmitterCycle s (s.perform s.txOperation) := by
  rw [State.txOperation, State.txsel, decodeTxsel_txselWord]
  cases hrst : s.inputs.rst with
  | true => exact .reset hrst
  | false =>
    cases hstate : s.txState with
    | idle =>
      cases hstart : s.inputs.txStart with
      | true => exact .capture hrst hstate hstart
      | false => exact .idle hrst hstate hstart
    | armed =>
      cases htick : s.inputs.txTick with
      | true => exact .firstBit hrst hstate htick
      | false => exact .armedWait hrst hstate htick
    | send =>
      cases htick : s.inputs.txTick with
      | false => exact .sendWait hrst hstate htick
      | true =>
        cases hlast : s.txLast with
        | true => exact .last hrst hstate htick ((txLast_iff s).mp hlast)
        | false =>
          have hindex : ¬ 16 ≤ s.txIndex.toNat := fun h => by simp [(txLast_iff s).mpr h] at hlast
          exact .bit hrst hstate htick (Nat.lt_of_not_le hindex)
    | reserved => exact .recover hrst hstate

/-- The decision of a receiver tick is shown and writes no register (R79, R100, R101). -/
theorem perform_dmOperation (s : State) :
    s.beginCycle.perform s.dmOperation = s.beginCycle.showDecision (s.symbolOf s.sampleIn) := by
  rw [State.dmOperation, State.dmsel, decodeDmsel_dmselWord, State.symbolOf]
  cases s.prevSymbol <;> rfl

/-- No operation reads the record of the decision. -/
theorem sameReceiver_perform_of_decided (s : State) (d : Option Symbol) (i : Instr) :
    ({ s with decided := d }.perform i).sameReceiver (s.perform i) := by
  cases i with
  | rxScanTick x =>
    have hacc : shift8 ({ s with decided := d } : State).scanAcc (({ s with decided := d } : State).symbolOf x) =
      shift8 s.scanAcc (s.symbolOf x) := rfl
    rw [perform_rxScanTick, perform_rxScanTick, hacc]
    split
    · exact ⟨rfl, rfl, rfl, rfl, rfl, rfl, rfl, rfl, rfl⟩
    · exact ⟨rfl, rfl, rfl, rfl, rfl, rfl, rfl, rfl, rfl⟩
  | _ => exact ⟨rfl, rfl, rfl, rfl, rfl, rfl, rfl, rfl, rfl⟩

theorem perform_build (s : State) (i : Instr) : (s.perform i).build = s.build := by
  cases i with
  | rxScanTick x => rw [perform_rxScanTick]; split <;> rfl
  | _ => rfl

theorem foldl_perform_build (ops : List Instr) (s : State) : (ops.foldl State.perform s).build = s.build := by
  induction ops generalizing s with
  | nil => rfl
  | cons i rest ih => rw [List.foldl_cons, ih, perform_build]

/-- No cycle writes the parameters (R9, R34). -/
theorem build_of_step {s t : State} (h : step s = .next t) : t.build = s.build := by
  rw [step_eq_next] at h
  cases h
  rw [endCycle_build, foldl_perform_build, foldl_perform_build, beginCycle_build]

/-- The receiver's operations of a cycle leave in it what the selected one does, the decision before it or not. -/
theorem sameReceiver_foldl_rxOperations {s : State} (hrx : s.build.paths.includeRx = true) :
    (s.rxOperations.foldl State.perform s.beginCycle).sameReceiver (s.perform s.rxOperation) := by
  rw [foldl_perform_rxOperations, if_pos hrx, perform_dmOperation]
  split
  · exact sameReceiver_perform_of_decided s (some (s.symbolOf s.sampleIn)) s.rxOperation
  · exact sameReceiver_perform_of_decided s none s.rxOperation

/-- The transmitter's operation of a cycle leaves in it what it does at the cycle's start. -/
theorem sameTransmitter_foldl_txOperations {s : State} (htx : s.build.paths.includeTx = true) :
    (s.txOperations.foldl State.perform s.beginCycle).sameTransmitter (s.perform s.txOperation) := by
  have hself : s.perform s.txOperation = s.txOperations.foldl State.perform s := by
    rw [foldl_perform_txOperations, if_pos htx]
  rw [hself]
  exact sameTransmitter_foldl_perform (fun _ => isReceiver_of_mem_txOperations) ⟨rfl, rfl, rfl, rfl⟩

/-- Put together from its two paths, the end of a cycle holds the receiver put in. -/
theorem sameReceiver_endCycle (u r x : State) :
    ((u.withReceiverOf r).withTransmitterOf x).endCycle.sameReceiver r :=
  ⟨rfl, rfl, rfl, rfl, rfl, rfl, rfl, rfl, rfl⟩

/-- Put together from its two paths, the end of a cycle holds the transmitter put in. -/
theorem sameTransmitter_endCycle (u r x : State) :
    ((u.withReceiverOf r).withTransmitterOf x).endCycle.sameTransmitter x :=
  ⟨rfl, rfl, rfl, rfl⟩

/-- The receiver a cycle leaves is the one its receiver operations leave (R13, R64). -/
theorem sameReceiver_of_step {s t : State} (h : step s = .next t) :
    t.sameReceiver (s.rxOperations.foldl State.perform s.beginCycle) := by
  rw [step_eq_next_paths] at h
  cases h
  exact sameReceiver_endCycle _ _ _

/-- The transmitter a cycle leaves is the one its transmitter operation leaves (R13, R64). -/
theorem sameTransmitter_of_step {s t : State} (h : step s = .next t) :
    t.sameTransmitter (s.txOperations.foldl State.perform s.beginCycle) := by
  rw [step_eq_next_paths] at h
  cases h
  exact sameTransmitter_endCycle _ _ _

theorem sameReceiver_trans {s t u : State} (h : s.sameReceiver t) (h' : t.sameReceiver u) : s.sameReceiver u := by
  obtain ⟨h1, h2, h3, h4, h5, h6, h7, h8, h9⟩ := h
  obtain ⟨k1, k2, k3, k4, k5, k6, k7, k8, k9⟩ := h'
  exact ⟨h1.trans k1, h2.trans k2, h3.trans k3, h4.trans k4, h5.trans k5, h6.trans k6, h7.trans k7, h8.trans k8,
    h9.trans k9⟩

theorem sameTransmitter_trans {s t u : State} (h : s.sameTransmitter t) (h' : t.sameTransmitter u) :
    s.sameTransmitter u := by
  obtain ⟨h1, h2, h3, h4⟩ := h
  obtain ⟨k1, k2, k3, k4⟩ := h'
  exact ⟨h1.trans k1, h2.trans k2, h3.trans k3, h4.trans k4⟩

/-- A cycle of a core that holds the receiver leaves in it what a row of R77 says. -/
theorem receiverCycle_of_step {s t : State} (h : step s = .next t) (hrx : s.build.paths.includeRx = true) :
    ∃ u, ReceiverCycle s u ∧ t.sameReceiver u :=
  ⟨_, receiverCycle_perform s, sameReceiver_trans (sameReceiver_of_step h) (sameReceiver_foldl_rxOperations hrx)⟩

/-- A cycle of a core that holds the transmitter leaves in it what a row of R78 says. -/
theorem transmitterCycle_of_step {s t : State} (h : step s = .next t) (htx : s.build.paths.includeTx = true) :
    ∃ u, TransmitterCycle s u ∧ t.sameTransmitter u :=
  ⟨_, transmitterCycle_perform s,
    sameTransmitter_trans (sameTransmitter_of_step h) (sameTransmitter_foldl_txOperations htx)⟩

/-- A core built without the receiver keeps its registers (R4). -/
theorem sameReceiver_of_step_absent {s t : State} (h : step s = .next t) (hrx : s.build.paths.includeRx = false) :
    t.sameReceiver s := by
  have hstep := sameReceiver_of_step h
  rw [foldl_perform_rxOperations, if_neg (by simp [hrx])] at hstep
  exact hstep

/-- A core built without the transmitter keeps its registers (R4). -/
theorem sameTransmitter_of_step_absent {s t : State} (h : step s = .next t)
    (htx : s.build.paths.includeTx = false) : t.sameTransmitter s := by
  have hstep := sameTransmitter_of_step h
  rw [foldl_perform_txOperations, if_neg (by simp [htx])] at hstep
  exact hstep

/-! ## The state after reset -/

theorem legal_resetOf {b : Build} (hb : b.wellFormed = true) : (State.resetOf b).Legal where
  build_wellFormed := hb
  prevSample_inRange := Nat.two_pow_pos _
  txState_not_reserved := by simp
  txIndex_le := by simp
  idle_at_rest := fun _ => ⟨rfl, rfl⟩
  armed_unsent := by simp
  send_started := by simp
  scan_no_payload := fun _ => rfl
  not_both_strobes := by simp

theorem coherent_resetOf (b : Build) : (State.resetOf b).Coherent where
  frame_keeps_preamble := by simp
  payload_in_low_bits := by simp
  sync_starts_frame := by simp
  valid_shows_byte := by simp
  frame_has_preamble := by simp
  armed_line_low := by simp
  send_line_is_frame_bit := by simp

/-- The two reset operations write every register (R20, R230, R231). -/
theorem sameCore_resetTx_resetRx (s : State) : s.resetRx.resetTx.sameCore (State.resetOf s.build) := rfl

/-- Settles O35: the two resets write all thirteen registers, and the values they write meet every clause. -/
theorem resetStateIsLegal : Obligations.ResetStateIsLegal :=
  ⟨fun s => ⟨s.resetRx.resetTx, execAll_eq_next _ s, sameCore_resetTx_resetRx s⟩,
    fun b hb => ⟨legal_resetOf hb, coherent_resetOf b⟩, legal_resetOf config_build_wellFormed,
    coherent_resetOf Config.build⟩

/-! ## The invariants of R40 -/

/-- The invariants of R40 about the receiver, with the width of `prev_sample` (R21). -/
structure State.ReceiverLegal (s : State) : Prop where
  prevSample_inRange : s.prevSample < 2 ^ s.build.sampleBits
  scan_no_payload : s.rxMode = .scan → s.payCount = 0#3
  not_both_strobes : ¬ (s.rxSync = true ∧ s.rxValid = true)

/-- The invariants of R40 about the transmitter. -/
structure State.TransmitterLegal (s : State) : Prop where
  txState_not_reserved : s.txState ≠ .reserved
  txIndex_le : s.txIndex.toNat ≤ 16
  idle_at_rest : s.txState = .idle → s.lineOut = LOW ∧ s.txIndex = 0#5
  armed_unsent : s.txState = .armed → s.txIndex = 0#5
  send_started : s.txState = .send → 1 ≤ s.txIndex.toNat

/-- Each invariant of R40 is about one path. -/
theorem legal_iff (s : State) :
    s.Legal ↔ s.build.wellFormed = true ∧ s.ReceiverLegal ∧ s.TransmitterLegal :=
  ⟨fun ⟨hb, hsample, hres, hindex, hidle, harmed, hsend, hscan, hstrobes⟩ =>
      ⟨hb, ⟨hsample, hscan, hstrobes⟩, ⟨hres, hindex, hidle, harmed, hsend⟩⟩,
    fun ⟨hb, ⟨hsample, hscan, hstrobes⟩, ⟨hres, hindex, hidle, harmed, hsend⟩⟩ =>
      ⟨hb, hsample, hres, hindex, hidle, harmed, hsend, hscan, hstrobes⟩⟩

theorem receiverLegal_congr {s t : State} (hb : t.build = s.build) (h : t.sameReceiver s) (hs : s.ReceiverLegal) :
    t.ReceiverLegal := by
  obtain ⟨hsample, -, -, hmode, -, hcount, -, hsync, hvalid⟩ := h
  obtain ⟨h1, h2, h3⟩ := hs
  exact ⟨by rwa [hb, hsample], by rwa [hmode, hcount], by rwa [hsync, hvalid]⟩

theorem transmitterLegal_congr {s t : State} (h : t.sameTransmitter s) (hs : s.TransmitterLegal) :
    t.TransmitterLegal := by
  obtain ⟨hstate, -, hindex, hline⟩ := h
  obtain ⟨h1, h2, h3, h4, h5⟩ := hs
  exact ⟨by rwa [hstate], by rwa [hindex], by rwa [hstate, hline, hindex], by rwa [hstate, hindex],
    by rwa [hstate, hindex]⟩

/-- The port carries `SAMPLE_BITS` bits (R83). -/
theorem sampleIn_lt (s : State) : s.sampleIn < 2 ^ s.build.sampleBits := Nat.mod_lt _ (Nat.two_pow_pos _)

theorem ReceiverCycle.build_eq {s u : State} (h : ReceiverCycle s u) : u.build = s.build := by
  cases h <;> rfl

/-- Every row of the receiver keeps its invariants: a count other than 0 is left only with the framer in control. -/
theorem ReceiverCycle.receiverLegal {s u : State} (h : ReceiverCycle s u) (hs : s.ReceiverLegal) :
    u.ReceiverLegal := by
  obtain ⟨hsample, hscan, -⟩ := hs
  cases h with
  | reset => exact ⟨Nat.two_pow_pos _, fun _ => rfl, by simp⟩
  | wait => exact ⟨hsample, hscan, by simp⟩
  | scanMatch => exact ⟨sampleIn_lt s, fun _ => rfl, by simp⟩
  | scanMiss => exact ⟨sampleIn_lt s, hscan, by simp⟩
  | frameTick _ _ hmode => exact ⟨sampleIn_lt s, by simp [hmode], by simp⟩
  | frameLast => exact ⟨sampleIn_lt s, fun _ => rfl, by simp⟩

theorem transmitterLegal_of_rest {s : State} (hstate : s.txState = .idle) (hline : s.lineOut = LOW)
    (hindex : s.txIndex = 0#5) : s.TransmitterLegal := by
  constructor <;> simp [hstate, hline, hindex]

/-- Every row of the transmitter keeps its invariants: TX_BIT is selected with the index below 16 alone, so the index
stops at 16. -/
theorem TransmitterCycle.transmitterLegal {s u : State} (h : TransmitterCycle s u) (hs : s.TransmitterLegal) :
    u.TransmitterLegal := by
  cases h with
  | reset => exact transmitterLegal_of_rest rfl rfl rfl
  | idle _ hstate => exact transmitterLegal_of_rest hstate rfl (hs.idle_at_rest hstate).2
  | capture => constructor <;> simp
  | armedWait | sendWait => exact hs
  | firstBit => constructor <;> simp
  | bit _ hstate _ hindex =>
    have hnext : (s.txIndex + 1#5).toNat = s.txIndex.toNat + 1 := by bv_omega
    constructor <;> simp [hstate] <;> omega
  | last | recover => exact transmitterLegal_of_rest rfl rfl rfl

/-- One cycle keeps the invariants, path by path (R40). -/
theorem legal_of_step {s t : State} (hs : s.Legal) (h : step s = .next t) : t.Legal := by
  obtain ⟨hbuild, hrx, htx⟩ := (legal_iff s).mp hs
  have hb := build_of_step h
  refine (legal_iff t).mpr ⟨hb ▸ hbuild, ?_, ?_⟩
  · cases hpath : s.build.paths.includeRx with
    | true =>
      obtain ⟨u, hu, htu⟩ := receiverCycle_of_step h hpath
      exact receiverLegal_congr (hb.trans hu.build_eq.symm) htu (hu.receiverLegal hrx)
    | false => exact receiverLegal_congr hb (sameReceiver_of_step_absent h hpath) hrx
  · cases hpath : s.build.paths.includeTx with
    | true =>
      obtain ⟨u, hu, htu⟩ := transmitterCycle_of_step h hpath
      exact transmitterLegal_congr htu (hu.transmitterLegal htx)
    | false => exact transmitterLegal_congr (sameTransmitter_of_step_absent h hpath) htx

/-- What the environment presents is in no invariant. -/
theorem legal_drive {s : State} (i : Inputs) (hs : s.Legal) : (s.drive i).Legal := by
  obtain ⟨hbuild, hrx, htx⟩ := (legal_iff s).mp hs
  exact (legal_iff _).mpr ⟨hbuild,
    receiverLegal_congr (drive_build s i) ⟨rfl, rfl, rfl, rfl, rfl, rfl, rfl, rfl, rfl⟩ hrx,
    transmitterLegal_congr (s := s) ⟨rfl, rfl, rfl, rfl⟩ htx⟩

/-- Every state a run from reset comes to is legal, by induction on the run (R40, R233). -/
theorem legal_of_reachable {s : State} (h : Reachable s) : s.Legal := by
  induction h with
  | reset b hb => exact legal_resetOf hb
  | step s t i _ hstep ih => exact legal_of_step (legal_drive i ih) hstep

/-- Settles O36: the invariants of each path are kept by each row of its selector, and they hold after reset. -/
theorem everyStepKeepsLegal : Obligations.EveryStepKeepsLegal :=
  ⟨fun _ _ hs h => legal_of_step hs h, fun _ h => legal_of_reachable h⟩

/-! ## The strobes and the ports -/

/-- What the receiver's ports show (R74). -/
theorem rxPorts_of_includeRx {s : State} (hrx : s.build.paths.includeRx = true) :
    s.rxPorts = some
      { rxSymbol := s.prevSymbol, rxFraming := decide (s.rxMode = .frame), rxSync := s.rxSync,
        rxValid := s.rxValid, rxByte := s.rxByte } :=
  if_pos hrx

/-- What the transmitter's ports show (R38, R74). -/
theorem txPorts_of_includeTx {s : State} (htx : s.build.paths.includeTx = true) :
    s.txPorts = some { lineOut := s.lineOut, txBusy := decide (s.txState ≠ .idle) } := by
  rw [State.txPorts, if_pos htx, State.txBusy]
  cases s.txState <;> rfl

/-- Settles O34: no port reads an input, and each shows its register. -/
theorem outputsShowRegistersAlone : Obligations.OutputsShowRegistersAlone :=
  fun s i => ⟨drive_rxPorts s i, drive_txPorts s i, rxPorts_of_includeRx, txPorts_of_includeTx⟩

/-- The matching scan tick alone leaves `rx_sync` = 1 (R28). -/
theorem ReceiverCycle.rxSync_iff {s u : State} (h : ReceiverCycle s u) :
    u.rxSync = true ↔ s.inputs.rst = false ∧ s.inputs.rxTick = true ∧ s.rxMode = .scan ∧
      shift8 s.scanAcc (s.symbolOf s.sampleIn) = Config.preamble := by
  cases h with
  | reset hrst => simp [hrst]
  | wait _ htick => simp [htick]
  | scanMatch hrst htick hmode hacc => simp [hrst, htick, hmode, hacc]
  | scanMiss _ _ _ hacc => simp [hacc]
  | frameTick _ _ hmode | frameLast _ _ hmode => simp [hmode]

/-- The tick of payload symbol 8 alone leaves `rx_valid` = 1 (R29). -/
theorem ReceiverCycle.rxValid_iff {s u : State} (h : ReceiverCycle s u) :
    u.rxValid = true ↔ s.inputs.rst = false ∧ s.inputs.rxTick = true ∧ s.rxMode = .frame ∧ s.payCount = 7#3 := by
  cases h with
  | reset hrst => simp [hrst]
  | wait _ htick => simp [htick]
  | scanMatch _ _ hmode | scanMiss _ _ hmode => simp [hmode]
  | frameTick _ _ _ hcount => simp [hcount]
  | frameLast hrst htick hmode hcount => simp [hrst, htick, hmode, hcount]

/-- Settles O26: each strobe is left 1 by one row of the receiver's selector, and the ports show both. -/
theorem strobesMarkMatchAndByte : Obligations.StrobesMarkMatchAndByte := by
  refine ⟨fun s t hrx h => ?_, fun b => ⟨resetOf_rxSync b, resetOf_rxValid b⟩⟩
  obtain ⟨u, hu, -, -, -, -, -, -, -, hsync, hvalid⟩ := receiverCycle_of_step h hrx
  have hports := rxPorts_of_includeRx (show t.build.paths.includeRx = true by rwa [build_of_step h])
  rw [hsync, hvalid, hports]
  exact ⟨hu.rxSync_iff, hu.rxValid_iff, congrArg some hsync, congrArg some hvalid⟩

end Sys2Proof.Machine
end

section
/-! What ties the accumulators, the frame register and the line to the modes, the life of `rx_byte`, and the inputs that
have an effect in a cycle (spec/20_memory.md R57, R60). -/

namespace Sys2Proof.Machine

/-! ## The accumulators, the frame and the line -/

/-- The clauses of `State.Coherent` about the receiver (R60, R121, R124, R145). -/
structure State.ReceiverCoherent (s : State) : Prop where
  frame_keeps_preamble : s.rxMode = .frame → s.scanAcc = Config.preamble
  payload_in_low_bits : s.rxMode = .frame → s.payAcc.toNat < 2 ^ s.payCount.toNat
  sync_starts_frame : s.rxSync = true → s.rxMode = .frame ∧ s.payCount = 0#3
  valid_shows_byte : s.rxValid = true → s.rxMode = .scan ∧ s.rxByte = s.payAcc

/-- The clauses of `State.Coherent` about the transmitter (R31, R161 to R165). -/
structure State.TransmitterCoherent (s : State) : Prop where
  frame_has_preamble : s.txState ≠ .idle → s.txFrame.extractLsb' 8 8 = Config.preamble
  armed_line_low : s.txState = .armed → s.lineOut = LOW
  send_line_is_frame_bit : s.txState = .send → s.lineOut = s.txFrame.getLsbD (16 - s.txIndex.toNat)

/-- Each clause of `State.Coherent` is about one path. -/
theorem coherent_iff (s : State) : s.Coherent ↔ s.ReceiverCoherent ∧ s.TransmitterCoherent :=
  ⟨fun ⟨hkeeps, hpay, hsync, hvalid, hframe, harmed, hsend⟩ =>
      ⟨⟨hkeeps, hpay, hsync, hvalid⟩, ⟨hframe, harmed, hsend⟩⟩,
    fun ⟨⟨hkeeps, hpay, hsync, hvalid⟩, ⟨hframe, harmed, hsend⟩⟩ =>
      ⟨hkeeps, hpay, hsync, hvalid, hframe, harmed, hsend⟩⟩

theorem receiverCoherent_congr {s t : State} (h : t.sameReceiver s) (hs : s.ReceiverCoherent) :
    t.ReceiverCoherent := by
  obtain ⟨-, -, hscanAcc, hmode, hpayAcc, hcount, hbyte, hsync, hvalid⟩ := h
  obtain ⟨h1, h2, h3, h4⟩ := hs
  exact ⟨by rwa [hmode, hscanAcc], by rwa [hmode, hpayAcc, hcount], by rwa [hsync, hmode, hcount],
    by rwa [hvalid, hmode, hbyte, hpayAcc]⟩

theorem transmitterCoherent_congr {s t : State} (h : t.sameTransmitter s) (hs : s.TransmitterCoherent) :
    t.TransmitterCoherent := by
  obtain ⟨hstate, hframe, hindex, hline⟩ := h
  obtain ⟨h1, h2, h3⟩ := hs
  exact ⟨by rwa [hstate, hframe], by rwa [hstate, hline], by rwa [hstate, hline, hframe, hindex]⟩

/-- An accumulator that holds `n` symbols holds `n + 1` after a shift (R14, R145). -/
theorem shift8_toNat_lt {acc : Byte} {n : Nat} (h : acc.toNat < 2 ^ n) (symbol : Symbol) :
    (shift8 acc symbol).toNat < 2 ^ (n + 1) := by
  have hsymbol := symbol.toNat_le
  have hmod := Nat.mod_le (2 * acc.toNat + symbol.toNat) 256
  rw [shift8_toNat, Nat.pow_succ]
  omega

/-- With the scanner in control and the strobes at 0, every clause about the receiver is about another mode. -/
theorem receiverCoherent_of_scan {s : State} (hmode : s.rxMode = .scan) (hsync : s.rxSync = false)
    (hvalid : s.rxValid = false) : s.ReceiverCoherent := by
  constructor <;> simp [hmode, hsync, hvalid]

/-- Every row of the receiver keeps its clauses: the framer gets control with the matched preamble and an empty
`pay_acc`, no row that leaves it in control writes `scan_acc`, and each payload symbol counts one bit more. -/
theorem ReceiverCycle.receiverCoherent {s u : State} (h : ReceiverCycle s u) (hs : s.ReceiverCoherent) :
    u.ReceiverCoherent := by
  obtain ⟨hkeeps, hpay, -, -⟩ := hs
  cases h with
  | reset => exact receiverCoherent_of_scan rfl rfl rfl
  | wait => exact ⟨hkeeps, hpay, by simp, by simp⟩
  | scanMatch _ _ _ hacc => exact ⟨fun _ => hacc, fun _ => by simp, fun _ => ⟨rfl, rfl⟩, by simp⟩
  | scanMiss _ _ hmode => exact receiverCoherent_of_scan hmode rfl rfl
  | frameTick _ _ hmode hcount =>
    have hnext : (s.payCount + 1#3).toNat = s.payCount.toNat + 1 := by bv_omega
    refine ⟨hkeeps, fun _ => ?_, by simp, by simp⟩
    simpa [hnext] using shift8_toNat_lt (hpay hmode) (s.symbolOf s.sampleIn)
  | frameLast => exact ⟨by simp, by simp, by simp, fun _ => ⟨rfl, rfl⟩⟩

theorem transmitterCoherent_of_idle {s : State} (hstate : s.txState = .idle) : s.TransmitterCoherent := by
  constructor <;> simp [hstate]

/-- A frame carries the preamble in its upper half (R72). -/
theorem frameOf_extract_preamble (payload : Byte) : (frameOf payload).extractLsb' 8 8 = Config.preamble :=
  BitVec.extractLsb'_append_eq_left

/-- Every row of the transmitter keeps its clauses: no row but a capture and the reset writes the frame, and a row that
drives a bit moves the index with it. -/
theorem TransmitterCycle.transmitterCoherent {s u : State} (h : TransmitterCycle s u) (hs : s.TransmitterCoherent) :
    u.TransmitterCoherent := by
  cases h with
  | reset | last | recover => exact transmitterCoherent_of_idle rfl
  | idle _ hstate => exact transmitterCoherent_of_idle hstate
  | capture => exact ⟨fun _ => frameOf_extract_preamble _, fun _ => rfl, by simp⟩
  | armedWait | sendWait => exact hs
  | firstBit _ hstate => exact ⟨fun _ => hs.frame_has_preamble (by simp [hstate]), by simp, fun _ => rfl⟩
  | bit _ hstate _ hindex =>
    have hnext : 16 - (s.txIndex + 1#5).toNat = 15 - s.txIndex.toNat := by bv_omega
    refine ⟨hs.frame_has_preamble, by simp [hstate], fun _ => ?_⟩
    rw [sendBit_lineOut, sendBit_txFrame, sendBit_txIndex, hnext, frameBit_of_le _ _ (by omega)]

/-- One cycle keeps the clauses, path by path. -/
theorem coherent_of_step {s t : State} (hs : s.Coherent) (h : step s = .next t) : t.Coherent := by
  obtain ⟨hrx, htx⟩ := (coherent_iff s).mp hs
  refine (coherent_iff t).mpr ⟨?_, ?_⟩
  · cases hpath : s.build.paths.includeRx with
    | true =>
      obtain ⟨u, hu, htu⟩ := receiverCycle_of_step h hpath
      exact receiverCoherent_congr htu (hu.receiverCoherent hrx)
    | false => exact receiverCoherent_congr (sameReceiver_of_step_absent h hpath) hrx
  · cases hpath : s.build.paths.includeTx with
    | true =>
      obtain ⟨u, hu, htu⟩ := transmitterCycle_of_step h hpath
      exact transmitterCoherent_congr htu (hu.transmitterCoherent htx)
    | false => exact transmitterCoherent_congr (sameTransmitter_of_step_absent h hpath) htx

/-- Settles O37: the clauses of each path are kept by each row of its selector. -/
theorem everyStepKeepsCoherent : Obligations.EveryStepKeepsCoherent :=
  fun _ _ _ hs h => coherent_of_step hs h

/-! ## The received byte -/

/-- The row that leaves `rx_valid` = 1 writes the shifted payload to `rx_byte` and to `pay_acc` (R141). -/
theorem ReceiverCycle.rxByte_of_rxValid {s u : State} (h : ReceiverCycle s u) (hvalid : u.rxValid = true) :
    u.rxByte = shift8 s.payAcc (s.symbolOf s.sampleIn) ∧ u.rxByte = u.payAcc := by
  cases h with
  | reset | wait | scanMatch | scanMiss | frameTick => cases hvalid
  | frameLast => exact ⟨rfl, rfl⟩

/-- Every row that leaves `rx_valid` = 0 keeps `rx_byte`, but for the reset (R27, R60). -/
theorem ReceiverCycle.rxByte_of_not_rxValid {s u : State} (h : ReceiverCycle s u) (hvalid : u.rxValid = false)
    (hnorst : s.inputs.rst = false) : u.rxByte = s.rxByte := by
  cases h with
  | reset hrst => simp [hrst] at hnorst
  | wait | scanMatch | scanMiss | frameTick => rfl
  | frameLast => cases hvalid

/-- With `rst` = 1 the reset is the receiver's row, whatever else the inputs are (R232). -/
theorem ReceiverCycle.eq_resetRx_of_rst {s u : State} (h : ReceiverCycle s u) (hrst : s.inputs.rst = true) :
    u = s.resetRx := by
  cases h with
  | reset => rfl
  | wait hnorst | scanMatch hnorst | scanMiss hnorst | frameTick hnorst | frameLast hnorst => simp [hrst] at hnorst

/-- Settles O27: one row of the receiver's selector writes `rx_byte` and sets `rx_valid`, and only the reset writes it
besides. -/
theorem byteIsNewWhenValidAndStickyElse : Obligations.ByteIsNewWhenValidAndStickyElse := by
  intro s t hrx h
  obtain ⟨u, hu, -, -, -, -, hpayAcc, -, hbyte, -, hvalid⟩ := receiverCycle_of_step h hrx
  rw [hvalid, hbyte, hpayAcc]
  refine ⟨hu.rxByte_of_rxValid, hu.rxByte_of_not_rxValid, fun hrst => ?_⟩
  rw [hu.eq_resetRx_of_rst hrst, resetRx_rxByte]

/-! ## The inputs that have an effect -/

/-- Inputs enter a cycle through the operations they select and through nothing else: the stimulus itself is used up. -/
theorem step_drive_congr {s : State} {i j : Inputs} (hrx : (s.drive i).rxOperations = (s.drive j).rxOperations)
    (htx : (s.drive i).txOperations = (s.drive j).txOperations) : step (s.drive i) = step (s.drive j) := by
  have hreceiver : (s.drive j).rxOperations.foldl State.perform (s.drive j).beginCycle =
      (s.drive j).beginCycle.withReceiverOf ((s.drive j).rxOperations.foldl State.perform (s.drive i).beginCycle) :=
    foldl_perform_withReceiverOf (fun _ => isReceiver_of_mem_rxOperations) (s.drive j).beginCycle (s.drive i).beginCycle
  have htransmitter : (s.drive j).txOperations.foldl State.perform (s.drive j).beginCycle =
      (s.drive j).beginCycle.withTransmitterOf ((s.drive j).txOperations.foldl State.perform (s.drive i).beginCycle) :=
    foldl_perform_withTransmitterOf (fun _ => isReceiver_of_mem_txOperations) (s.drive j).beginCycle
      (s.drive i).beginCycle
  rw [step_eq_next_paths, step_eq_next_paths, hrx, htx, hreceiver, htransmitter]
  rfl

/-- In a reset and in a wait the receiver reads no sample; in a tick it reads the one the port carries (R77, R79). -/
theorem rxOperations_drive_congr {s : State} {i j : Inputs} (hrst : i.rst = j.rst)
    (heffect : i.rst = false → i.rxTick = j.rxTick ∧
      (i.rxTick = true → i.sampleIn % 2 ^ s.build.sampleBits = j.sampleIn % 2 ^ s.build.sampleBits)) :
    (s.drive i).rxOperations = (s.drive j).rxOperations := by
  simp only [State.rxOperations, State.rxOperation, State.rxsel, State.dmOperation, State.dmsel, State.decides,
    decodeRxsel_rxselWord, drive_build, drive_inputs, drive_sampleIn, drive_prevSymbol, drive_rxMode, drive_rxLast,
    ← hrst]
  cases hr : i.rst with
  | true => simp
  | false =>
    obtain ⟨htick, hsample⟩ := heffect hr
    rw [← htick]
    cases ht : i.rxTick with
    | true => rw [hsample ht]
    | false => simp

/-- Idle, the transmitter reads the request and, where there is one, the payload; armed or sending, the tick; in a reset
or in the reserved state, nothing more (R78). -/
theorem txOperations_drive_congr {s : State} {i j : Inputs} (hrst : i.rst = j.rst)
    (heffect : i.rst = false → (s.txState = .armed ∨ s.txState = .send → i.txTick = j.txTick) ∧
      (s.txState = .idle → i.txStart = j.txStart ∧ (i.txStart = true → i.txData = j.txData))) :
    (s.drive i).txOperations = (s.drive j).txOperations := by
  simp only [State.txOperations, State.txOperation, State.txsel, State.txData, decodeTxsel_txselWord, drive_build,
    drive_inputs, drive_txState, drive_txLast, ← hrst]
  cases hr : i.rst with
  | true => rfl
  | false =>
    obtain ⟨htick, hrequest⟩ := heffect hr
    cases hstate : s.txState with
    | idle =>
      obtain ⟨hstart, hdata⟩ := hrequest hstate
      rw [← hstart]
      cases hreq : i.txStart with
      | true => rw [hdata hreq]
      | false => rfl
    | armed => rw [htick (.inl hstate)]
    | send => rw [htick (.inr hstate)]
    | reserved => rfl

/-- Settles O32: inputs that agree where they have an effect select the same operations, each path's from its own
inputs. -/
theorem onlyEffectiveInputsMatter : Obligations.OnlyEffectiveInputsMatter := by
  intro s i j hrst heffect
  apply step_drive_congr
  · refine rxOperations_drive_congr hrst fun hr => ?_
    obtain ⟨htick, hsample, -, -⟩ := heffect hr
    exact ⟨htick, hsample⟩
  · refine txOperations_drive_congr hrst fun hr => ?_
    obtain ⟨-, -, htick, hrequest⟩ := heffect hr
    exact ⟨htick, hrequest⟩

end Sys2Proof.Machine
end

section
/-! The decoder and the encoder: the stimulus word, the rows of the opcode table, and an operation placed where a cycle
selects it (spec/30_encoding.md R76 to R84). -/

namespace Sys2Proof

/-! ## The stimulus word -/

/-- The twelve bits of a stimulus word above the sample: the four flags and the payload (R76). -/
def stimulusHead (i : Inputs) : Nat :=
  i.rst.toNat * 2048 + i.rxTick.toNat * 1024 + i.txTick.toNat * 512 + i.txStart.toNat * 256 + i.txData.toNat

theorem encodeStimulus_eq (n : Nat) (i : Inputs) :
    encodeStimulus n i = 2 ^ n * stimulusHead i + i.sampleIn := by
  simp only [encodeStimulus, stimulusHead, Nat.pow_add]
  ring

theorem encodeStimulus_div {n : Nat} {i : Inputs} (h : i.sampleIn < 2 ^ n) :
    encodeStimulus n i / 2 ^ n = stimulusHead i := by
  rw [encodeStimulus_eq, Nat.mul_add_div (Nat.two_pow_pos n), Nat.div_eq_of_lt h, Nat.add_zero]

theorem encodeStimulus_mod {n : Nat} {i : Inputs} (h : i.sampleIn < 2 ^ n) :
    encodeStimulus n i % 2 ^ n = i.sampleIn := by
  rw [encodeStimulus_eq, Nat.mul_add_mod, Nat.mod_eq_of_lt h]

theorem stimulusHead_lt (i : Inputs) : stimulusHead i < 4096 := by
  have h1 := i.rst.toNat_le
  have h2 := i.rxTick.toNat_le
  have h3 := i.txTick.toNat_le
  have h4 := i.txStart.toNat_le
  have h5 := i.txData.isLt
  unfold stimulusHead
  omega

/-- A word has `n` + 12 bits exactly if what stands above its sample has twelve. -/
theorem lt_two_pow_iff_head_lt (n w : Nat) : w < 2 ^ (n + 12) ↔ w / 2 ^ n < 4096 := by
  rw [Nat.div_lt_iff_lt_mul (Nat.two_pow_pos n), Nat.pow_add, Nat.mul_comm]

/-- A bit above the sample is a bit of the word's upper part. -/
theorem testBit_add_eq_head (n w k : Nat) : w.testBit (n + k) = (w / 2 ^ n).testBit k := by
  rw [Nat.testBit_div_two_pow, Nat.add_comm]

/-- Each flag is one bit of the head, and the payload its low byte (R76). -/
theorem stimulusHead_fields (i : Inputs) :
    (stimulusHead i).testBit 11 = i.rst ∧ (stimulusHead i).testBit 10 = i.rxTick ∧
    (stimulusHead i).testBit 9 = i.txTick ∧ (stimulusHead i).testBit 8 = i.txStart ∧
    stimulusHead i % 256 = i.txData.toNat := by
  have h1 := i.rst.toNat_le
  have h2 := i.rxTick.toNat_le
  have h3 := i.txTick.toNat_le
  have h4 := i.txStart.toNat_le
  have h5 := i.txData.isLt
  have hbit (k : Nat) (b : Bool) (h : stimulusHead i / 2 ^ k % 2 = b.toNat) : (stimulusHead i).testBit k = b := by
    rw [Nat.testBit_eq_decide_div_mod_eq, h]
    cases b <;> rfl
  refine ⟨hbit _ _ ?_, hbit _ _ ?_, hbit _ _ ?_, hbit _ _ ?_, ?_⟩ <;> unfold stimulusHead <;> omega

/-- Twelve bits are the head of the inputs read from them. -/
theorem stimulusHead_of_bits (q sample : Nat) (hq : q < 4096) :
    stimulusHead
      { rst := q.testBit 11, rxTick := q.testBit 10, txTick := q.testBit 9, txStart := q.testBit 8,
        txData := BitVec.ofNat 8 q, sampleIn := sample } = q := by
  simp only [stimulusHead, Nat.toNat_testBit, BitVec.toNat_ofNat]
  omega

/-- A word that fits decodes to inputs whose head and sample are its two parts. -/
theorem decodeStimulus_of_lt {n w : Nat} (h : w < 2 ^ (n + 12)) :
    decodeStimulus n w = .ok
      { rst := (w / 2 ^ n).testBit 11, rxTick := (w / 2 ^ n).testBit 10, txTick := (w / 2 ^ n).testBit 9,
        txStart := (w / 2 ^ n).testBit 8, txData := BitVec.ofNat 8 (w / 2 ^ n), sampleIn := w % 2 ^ n } := by
  rw [decodeStimulus, if_pos h]
  simp only [testBit_add_eq_head]

theorem encodeStimulus_lt {n : Nat} {i : Inputs} (h : i.sampleIn < 2 ^ n) : encodeStimulus n i < 2 ^ (n + 12) := by
  rw [lt_two_pow_iff_head_lt, encodeStimulus_div h]
  exact stimulusHead_lt i

theorem decodeStimulus_encodeStimulus {n : Nat} {i : Inputs} (h : i.sampleIn < 2 ^ n) :
    decodeStimulus n (encodeStimulus n i) = .ok i := by
  obtain ⟨hrst, hrx, htx, hstart, hdata⟩ := stimulusHead_fields i
  have hpayload : BitVec.ofNat 8 (stimulusHead i) = i.txData := by
    apply BitVec.eq_of_toNat_eq
    rw [BitVec.toNat_ofNat, ← hdata]
  rw [decodeStimulus_of_lt (encodeStimulus_lt h), encodeStimulus_div h, encodeStimulus_mod h, hrst, hrx, htx, hstart,
    hpayload]

/-- Settles O19: a word is a head of twelve bits above a sample of `n`, and the head's bits are the other inputs. -/
theorem stimulusWordRoundTrip : Obligations.StimulusWordRoundTrip := by
  refine ⟨fun n i h => ?_, fun n w h => ?_, fun n w h => if_neg (Nat.not_lt.mpr h)⟩
  · obtain ⟨hrst, hrx, htx, hstart, hdata⟩ := stimulusHead_fields i
    simp only [testBit_add_eq_head, encodeStimulus_div h]
    exact ⟨encodeStimulus_lt h, hrst, hrx, htx, hstart, hdata, encodeStimulus_mod h, decodeStimulus_encodeStimulus h⟩
  · refine ⟨_, decodeStimulus_of_lt h, Nat.mod_lt _ (Nat.two_pow_pos n), ?_⟩
    rw [encodeStimulus_eq, stimulusHead_of_bits _ _ ((lt_two_pow_iff_head_lt n w).mp h)]
    exact Nat.div_add_mod w (2 ^ n)

/-! ## The rows of the opcode table -/

/-- Every operation's row is in the table, whatever its operand. -/
theorem rowOf_mem_opcodeRows (i : Instr) : rowOf i ∈ opcodeRows := by
  cases i <;> simp [opcodeRows, rowOf]

/-- Which row a value of RXSEL selects does not depend on the sample. -/
theorem rowOf_decodeRxsel (sel : BitVec 4) (x : Nat) : rowOf (decodeRxsel sel x) = rowOf (decodeRxsel sel 0) := by
  unfold decodeRxsel
  split <;> rfl

/-- Which row a value of TXSEL selects does not depend on the payload. -/
theorem rowOf_decodeTxsel (sel : BitVec 6) (d : Byte) : rowOf (decodeTxsel sel d) = rowOf (decodeTxsel sel 0) := by
  unfold decodeTxsel
  split <;> rfl

/-- Which row a value of DMSEL selects does not depend on the sample. -/
theorem rowOf_decodeDmsel (sel : BitVec 1) (x : Nat) : rowOf (decodeDmsel sel x) = rowOf (decodeDmsel sel 0) := by
  unfold decodeDmsel
  split <;> rfl

/-- The row of a decoded receiver operation belongs to RXSEL and covers the value it was decoded from (R77). -/
theorem rowOf_decodeRxsel_covers (w x : Nat) (hw : w < 2 ^ 4) :
    (rowOf (decodeRxsel (BitVec.ofNat 4 w) x)).format = .rxsel ∧
      rowCovers (rowOf (decodeRxsel (BitVec.ofNat 4 w) x)) w = true := by
  rw [rowOf_decodeRxsel]
  revert w
  decide

/-- The row of a decoded transmitter operation belongs to TXSEL and covers the value it was decoded from (R78). -/
theorem rowOf_decodeTxsel_covers (w : Nat) (d : Byte) (hw : w < 2 ^ 6) :
    (rowOf (decodeTxsel (BitVec.ofNat 6 w) d)).format = .txsel ∧
      rowCovers (rowOf (decodeTxsel (BitVec.ofNat 6 w) d)) w = true := by
  rw [rowOf_decodeTxsel]
  revert w
  decide

/-- The row of a decoded decision belongs to DMSEL and covers the value it was decoded from (R79). -/
theorem rowOf_decodeDmsel_covers (w x : Nat) (hw : w < 2 ^ 1) :
    (rowOf (decodeDmsel (BitVec.ofNat 1 w) x)).format = .dmsel ∧
      rowCovers (rowOf (decodeDmsel (BitVec.ofNat 1 w) x)) w = true := by
  rw [rowOf_decodeDmsel]
  revert w
  decide

/-- A value that fits RXSEL is an operation with every sample that fits (R77, R83). -/
theorem decode_rxsel (n x : Nat) {w : Nat} (hw : w < 2 ^ 4) :
    decode n ⟨.rxsel, w, x⟩ =
      if x < 2 ^ n then .ok (decodeRxsel (BitVec.ofNat 4 w) x) else .error .sampleTooWide :=
  if_neg (Nat.not_le.mpr hw)

/-- A value that fits TXSEL is an operation with every byte (R78). -/
theorem decode_txsel (n x : Nat) {w : Nat} (hw : w < 2 ^ 6) :
    decode n ⟨.txsel, w, x⟩ =
      if x < 2 ^ 8 then .ok (decodeTxsel (BitVec.ofNat 6 w) (BitVec.ofNat 8 x)) else .error .payloadTooWide :=
  if_neg (Nat.not_le.mpr hw)

/-- A value that fits DMSEL is a decision on every sample that fits (R79, R83). -/
theorem decode_dmsel (n x : Nat) {w : Nat} (hw : w < 2 ^ 1) :
    decode n ⟨.dmsel, w, x⟩ =
      if x < 2 ^ n then .ok (decodeDmsel (BitVec.ofNat 1 w) x) else .error .sampleTooWide :=
  if_neg (Nat.not_le.mpr hw)

/-- The rows of one selector cut its values into disjoint parts (R80). -/
theorem one_row_covers (f : Format) :
    ∀ w < 2 ^ formatWidth f, (opcodeRows.filter fun r => r.format = f ∧ rowCovers r w = true).length = 1 := by
  cases f <;> decide

/-- Settles O18: the values of each selector are finitely many, no row depends on an operand, and every cycle has a next
state. -/
theorem everySelectorValueIsOneOperation : Obligations.EverySelectorValueIsOneOperation := by
  refine ⟨one_row_covers, fun f w n x hw hx => ?_, fun s => ⟨_, Machine.step_eq_next s⟩⟩
  cases f with
  | rxsel => exact ⟨_, (decode_rxsel n x hw).trans (if_pos hx), rowOf_mem_opcodeRows _, rowOf_decodeRxsel_covers w x hw⟩
  | txsel => exact ⟨_, (decode_txsel n x hw).trans (if_pos hx), rowOf_mem_opcodeRows _, rowOf_decodeTxsel_covers w _ hw⟩
  | dmsel => exact ⟨_, (decode_dmsel n x hw).trans (if_pos hx), rowOf_mem_opcodeRows _, rowOf_decodeDmsel_covers w x hw⟩

/-! ## An operation, its encoding, and the cycle it is placed in -/

/-- The decoder takes each operation's encoding back to it, its operand being one the port carries. -/
theorem decode_encode {b : Build} {i : Instr} (hi : i.wellFormed b = true) :
    decode b.sampleBits (encode i) = .ok i := by
  cases i with
  | rxScanTick | rxFrameTick | rxFrameLast => exact (decode_rxsel _ _ (by decide)).trans (if_pos (of_decide_eq_true hi))
  | demodFromHigh | demodFromLow => exact (decode_dmsel _ _ (by decide)).trans (if_pos (of_decide_eq_true hi))
  | rxReset | rxWait => exact (decode_rxsel _ _ (by decide)).trans (if_pos (Nat.two_pow_pos _))
  | txCapture d =>
    rw [encode, decode_txsel _ _ (by decide), if_pos d.isLt, BitVec.ofNat_toNat, BitVec.setWidth_eq]
    rfl
  | txReset | txIdle | txArmedWait | txFirstBit | txSendWait | txBit | txEnd | txRecover => rfl

/-- RXSEL is put together from the four bits of its value (R77). -/
theorem rxselWord_testBit (w : Nat) (hw : w < 2 ^ 4) :
    rxselWord (w.testBit 3) (w.testBit 2) (rxModeOfBit (w.testBit 1)) (w.testBit 0) = BitVec.ofNat 4 w := by
  revert w
  decide

/-- TXSEL is put together from the six bits of its value (R78). -/
theorem txselWord_testBit (w : Nat) (hw : w < 2 ^ 6) :
    txselWord (w.testBit 5) (w.testBit 4) (w.testBit 3) (txStateOfBits (w.testBit 2) (w.testBit 1)) (w.testBit 0) =
      BitVec.ofNat 6 w := by
  revert w
  decide

/-- DMSEL is the one bit of its value (R79). -/
theorem dmselWord_testBit (w : Nat) (hw : w < 2 ^ 1) : dmselWord (w.testBit 0) = BitVec.ofNat 1 w := by
  revert w
  decide

end Sys2Proof

namespace Sys2Proof.Machine

/-- Placing sets the count so that `rx_last` is the selector's bit 0 (R77). -/
theorem place_rxLast (s : State) (w x : Nat) : (s.place ⟨.rxsel, w, x⟩).rxLast = w.testBit 0 := by
  change ((if w.testBit 0 then 7#3 else if s.payCount = 7#3 then 0#3 else s.payCount) == 7#3) = w.testBit 0
  cases w.testBit 0 with
  | true => rfl
  | false =>
    by_cases h : s.payCount = 7#3
    · simp [h]
    · simp [h]

/-- Placing sets the index so that `tx_last` is the selector's bit 0 (R78). -/
theorem place_txLast (s : State) (w x : Nat) : (s.place ⟨.txsel, w, x⟩).txLast = w.testBit 0 := by
  change decide (16 ≤ (if w.testBit 0 then (if 16 ≤ s.txIndex.toNat then s.txIndex else 16#5)
    else if 16 ≤ s.txIndex.toNat then 0#5 else s.txIndex).toNat) = w.testBit 0
  cases w.testBit 0 with
  | true =>
    by_cases h : 16 ≤ s.txIndex.toNat
    · simp [h]
    · simp [h]
  | false =>
    by_cases h : 16 ≤ s.txIndex.toNat
    · simp [h]
    · simp [h]

theorem place_rxsel (s : State) {w : Nat} (x : Nat) (hw : w < 2 ^ 4) :
    (s.place ⟨.rxsel, w, x⟩).rxsel = BitVec.ofNat 4 w := by
  rw [State.rxsel, place_rxLast]
  exact rxselWord_testBit w hw

theorem place_txsel (s : State) {w : Nat} (x : Nat) (hw : w < 2 ^ 6) :
    (s.place ⟨.txsel, w, x⟩).txsel = BitVec.ofNat 6 w := by
  rw [State.txsel, place_txLast]
  exact txselWord_testBit w hw

/-- With both paths built, a cycle performs the receiver's operation. -/
theorem rxOperation_mem_operations {s : State} (hrx : s.build.paths.includeRx = true) :
    s.rxOperation ∈ s.operations := by
  cases hdecides : s.decides <;> simp [State.operations, hrx, hdecides]

theorem txOperation_mem_operations {s : State} (htx : s.build.paths.includeTx = true) :
    s.txOperation ∈ s.operations := by
  simp [State.operations, htx]

theorem dmOperation_mem_operations {s : State} (hrx : s.build.paths.includeRx = true) (hdecides : s.decides = true) :
    s.dmOperation ∈ s.operations := by
  simp [State.operations, hrx, hdecides]

/-- A cycle performs the receiver operation of a placed value of RXSEL (R77). -/
theorem mem_operations_place_rxsel (s : State) {w x : Nat} (hw : w < 2 ^ 4) (hx : x < 2 ^ s.build.sampleBits) :
    decodeRxsel (BitVec.ofNat 4 w) x ∈ (s.place ⟨.rxsel, w, x⟩).operations := by
  have hop : (s.place ⟨.rxsel, w, x⟩).rxOperation = decodeRxsel (BitVec.ofNat 4 w) x := by
    rw [State.rxOperation, place_rxsel s x hw]
    exact congrArg _ (Nat.mod_eq_of_lt hx)
  rw [← hop]
  exact rxOperation_mem_operations rfl

/-- A cycle performs the transmitter operation of a placed value of TXSEL (R78). -/
theorem mem_operations_place_txsel (s : State) {w : Nat} (x : Nat) (hw : w < 2 ^ 6) :
    decodeTxsel (BitVec.ofNat 6 w) (BitVec.ofNat 8 x) ∈ (s.place ⟨.txsel, w, x⟩).operations := by
  have hop : (s.place ⟨.txsel, w, x⟩).txOperation = decodeTxsel (BitVec.ofNat 6 w) (BitVec.ofNat 8 x) := by
    rw [State.txOperation, place_txsel s x hw]
    rfl
  rw [← hop]
  exact txOperation_mem_operations rfl

/-- A cycle makes the decision of a placed value of DMSEL (R79). -/
theorem mem_operations_place_dmsel (s : State) {w x : Nat} (hw : w < 2 ^ 1) (hx : x < 2 ^ s.build.sampleBits) :
    decodeDmsel (BitVec.ofNat 1 w) x ∈ (s.place ⟨.dmsel, w, x⟩).operations := by
  have hop : (s.place ⟨.dmsel, w, x⟩).dmOperation = decodeDmsel (BitVec.ofNat 1 w) x := by
    rw [← dmselWord_testBit w hw]
    exact congrArg _ (Nat.mod_eq_of_lt hx)
  rw [← hop]
  exact dmOperation_mem_operations rfl rfl

/-- Numbers that decode are performed where they are placed. -/
theorem mem_operations_place_of_decode {s : State} {e : Encoded} {i : Instr}
    (h : decode s.build.sampleBits e = .ok i) : i ∈ (s.place e).operations := by
  obtain ⟨f, w, x⟩ := e
  by_cases hw : w < 2 ^ formatWidth f
  · cases f with
    | rxsel =>
      rw [decode_rxsel _ _ hw] at h
      split at h
      next hx => cases h; exact mem_operations_place_rxsel s hw hx
      next => cases h
    | txsel =>
      rw [decode_txsel _ _ hw] at h
      split at h
      next => cases h; exact mem_operations_place_txsel s x hw
      next => cases h
    | dmsel =>
      rw [decode_dmsel _ _ hw] at h
      split at h
      next hx => cases h; exact mem_operations_place_dmsel s hw hx
      next => cases h
  · simp [decode, Nat.not_lt.mp hw] at h

/-- Settles O20: the encoding decodes to the operation, and numbers that decode are performed where they are placed. -/
theorem encodedOperationIsSelected : Obligations.EncodedOperationIsSelected :=
  fun _ _ hi => ⟨decode_encode hi, mem_operations_place_of_decode (decode_encode hi)⟩

/-! ## Written-out words and stimulus items -/

/-- Settles O17: closed words, read by the decoders. -/
theorem writtenWordsDecode : Obligations.WrittenWordsDecode := by
  unfold Obligations.WrittenWordsDecode
  decide

/-- One item more on a line is applied to what the line gave before it (R84). -/
theorem lineInputs_append_singleton (items : List Item) (item : Item) :
    lineInputs (items ++ [item]) = applyItem (lineInputs items) item := by
  rw [lineInputs, List.foldl_append]
  rfl

theorem rxBitsItem_getElem? (low high : Nat) (bits : List Bool) (k : Nat) :
    (rxBitsItem low high bits)[k]? = bits[k]?.map fun b => [.rx (if b then high else low)] :=
  List.getElem?_map

/-- Settles O21: a line is the fold of its items over the inactive inputs, and the pseudo-items are lists of lines. -/
theorem stimulusItemsExpand : Obligations.StimulusItemsExpand :=
  ⟨rfl, rfl, fun _ => rfl, rfl, fun _ => rfl, lineInputs_append_singleton, fun _ _ => ⟨rfl, rfl⟩,
    fun _ => ⟨List.length_replicate, fun _ => List.eq_of_mem_replicate⟩,
    fun _ => ⟨rfl, rfl, fun _ => List.eq_of_mem_replicate⟩, rxBitsItem_getElem?, fun _ _ _ => rfl⟩

end Sys2Proof.Machine
end

section
/-! Cycles as a total function of the state, the one row that the receiver and the transmitter each take in a cycle, and
cycles without ticks, requests and reset (spec/30_encoding.md R75; spec/60_exceptions.md R218). -/

namespace Sys2Proof.Machine

/-! ## The state a cycle ends in -/

/-- The state the current cycle ends in; `step_eq_next_afterCycle` ties it to `step`. -/
def State.afterCycle (s : State) : State :=
  (s.txOperations.foldl State.perform (s.rxOperations.foldl State.perform s.beginCycle)).endCycle

theorem step_eq_next_afterCycle (s : State) : step s = .next s.afterCycle := step_eq_next s

@[simp] theorem afterCycle_build (s : State) : s.afterCycle.build = s.build :=
  build_of_step (step_eq_next_afterCycle s)

theorem runInputs_cons (i : Inputs) (rest : List Inputs) (s : State) :
    runInputs (i :: rest) s = runInputs rest (s.drive i).afterCycle :=
  runInputs_cons_of_next (step_eq_next_afterCycle _)

/-- The relation `ReceiverCycle` gives each state one row. -/
theorem ReceiverCycle.eq_perform {s u : State} (h : ReceiverCycle s u) : u = s.perform s.rxOperation := by
  rw [State.rxOperation, State.rxsel, decodeRxsel_rxselWord]
  cases h with
  | reset hrst => rw [hrst]; rfl
  | wait hrst htick => rw [hrst, htick]; rfl
  | scanMatch hrst htick hmode hacc =>
    rw [hrst, htick, hmode]
    exact (if_pos hacc).symm
  | scanMiss hrst htick hmode hacc =>
    rw [hrst, htick, hmode]
    exact (if_neg hacc).symm
  | frameTick hrst htick hmode hcount =>
    have hlast : s.rxLast = false := Bool.eq_false_iff.mpr fun h => hcount ((rxLast_iff s).mp h)
    rw [hrst, htick, hmode, hlast]
    rfl
  | frameLast hrst htick hmode hcount =>
    rw [hrst, htick, hmode, (rxLast_iff s).mpr hcount]
    rfl

/-- The relation `TransmitterCycle` gives each state one row. -/
theorem TransmitterCycle.eq_perform {s u : State} (h : TransmitterCycle s u) : u = s.perform s.txOperation := by
  rw [State.txOperation, State.txsel, decodeTxsel_txselWord]
  cases h with
  | reset hrst => rw [hrst]; rfl
  | idle hrst hstate hstart | capture hrst hstate hstart => rw [hrst, hstate, hstart]; rfl
  | armedWait hrst hstate htick | firstBit hrst hstate htick | sendWait hrst hstate htick =>
    rw [hrst, hstate, htick]
    rfl
  | bit hrst hstate htick hindex =>
    have hlast : s.txLast = false := Bool.eq_false_iff.mpr fun h => Nat.not_le.mpr hindex ((txLast_iff s).mp h)
    rw [hrst, hstate, htick, hlast]
    rfl
  | last hrst hstate htick hindex =>
    rw [hrst, hstate, htick, (txLast_iff s).mpr hindex]
    rfl
  | recover hrst hstate => rw [hrst, hstate]; rfl

/-- A cycle leaves in the receiver what the row that its start selects says. -/
theorem sameReceiver_afterCycle {s u : State} (hrx : s.build.paths.includeRx = true) (h : ReceiverCycle s u) :
    s.afterCycle.sameReceiver u := by
  rw [h.eq_perform]
  exact sameReceiver_trans (sameReceiver_of_step (step_eq_next_afterCycle s)) (sameReceiver_foldl_rxOperations hrx)

/-- A cycle leaves in the transmitter what the row that its start selects says. -/
theorem sameTransmitter_afterCycle {s u : State} (htx : s.build.paths.includeTx = true) (h : TransmitterCycle s u) :
    s.afterCycle.sameTransmitter u := by
  rw [h.eq_perform]
  exact sameTransmitter_trans (sameTransmitter_of_step (step_eq_next_afterCycle s))
    (sameTransmitter_foldl_txOperations htx)

/-! ## Quiet cycles -/

/-- Two states are the same core exactly if both paths and the parameters are the same. -/
theorem sameCore_iff (s t : State) :
    s.sameCore t ↔ s.build = t.build ∧ s.sameReceiver t ∧ s.sameTransmitter t := by
  constructor
  · intro h
    rw [← (show { s with decided := t.decided, stimuli := t.stimuli, cycle := t.cycle } = t from h)]
    exact ⟨rfl, ⟨rfl, rfl, rfl, rfl, rfl, rfl, rfl, rfl, rfl⟩, rfl, rfl, rfl, rfl⟩
  · rintro ⟨hb, ⟨h1, h2, h3, h4, h5, h6, h7, h8, h9⟩, h10, h11, h12, h13⟩
    simp only [State.sameCore, hb, h1, h2, h3, h4, h5, h6, h7, h8, h9, h10, h11, h12, h13]

/-- Inputs that ask nothing of either path: no reset, no tick, no request (R75). -/
def QuietInputs (i : Inputs) : Prop :=
  i.rst = false ∧ i.rxTick = false ∧ i.txTick = false ∧ i.txStart = false

/-- A transmitter that no cycle moves by itself: not in the reserved state, and idle only with the line low (R160,
R167). -/
def State.TransmitterAtRest (s : State) : Prop :=
  s.txState ≠ .reserved ∧ (s.txState = .idle → s.lineOut = LOW)

/-- `s` once the strobes have fallen, in a core that has them. -/
def State.settled (s : State) : State :=
  if s.build.paths.includeRx then s.setStrobes false false else s

theorem settled_build (s : State) : s.settled.build = s.build := by
  unfold State.settled
  split <;> rfl

theorem sameTransmitter_settled (s : State) : s.settled.sameTransmitter s := by
  unfold State.settled
  split <;> exact ⟨rfl, rfl, rfl, rfl⟩

/-- A quiet cycle lets the strobes fall and leaves the other receiver registers. -/
theorem sameReceiver_afterCycle_of_quiet {s : State} {i : Inputs} (hi : QuietInputs i) :
    (s.drive i).afterCycle.sameReceiver s.settled := by
  obtain ⟨hrst, hrx, -, -⟩ := hi
  cases hpath : s.build.paths.includeRx with
  | true =>
    rw [State.settled, if_pos hpath]
    exact sameReceiver_afterCycle (s := s.drive i) (u := (s.drive i).setStrobes false false) hpath (.wait hrst hrx)
  | false =>
    rw [State.settled, if_neg (by simp [hpath])]
    exact sameReceiver_of_step_absent (s := s.drive i) (step_eq_next_afterCycle _) hpath

/-- A quiet cycle leaves a transmitter at rest: it waits armed or sending, and idle it drives the low line low. -/
theorem sameTransmitter_afterCycle_of_quiet {s : State} {i : Inputs} (hs : s.TransmitterAtRest) (hi : QuietInputs i) :
    (s.drive i).afterCycle.sameTransmitter s := by
  obtain ⟨hreserved, hidle⟩ := hs
  obtain ⟨hrst, -, htx, hstart⟩ := hi
  cases hpath : s.build.paths.includeTx with
  | false => exact sameTransmitter_of_step_absent (s := s.drive i) (step_eq_next_afterCycle _) hpath
  | true =>
    cases hstate : s.txState with
    | idle =>
      obtain ⟨h1, h2, h3, h4⟩ := sameTransmitter_afterCycle (s := s.drive i) hpath (.idle hrst hstate hstart)
      exact ⟨h1, h2, h3, h4.trans (hidle hstate).symm⟩
    | armed => exact sameTransmitter_afterCycle (s := s.drive i) (u := s.drive i) hpath (.armedWait hrst hstate htx)
    | send => exact sameTransmitter_afterCycle (s := s.drive i) (u := s.drive i) hpath (.sendWait hrst hstate htx)
    | reserved => exact absurd hstate hreserved

/-- A quiet cycle changes no register but the strobes, which fall (R75). -/
theorem sameCore_afterCycle_of_quiet {s : State} {i : Inputs} (hs : s.TransmitterAtRest) (hi : QuietInputs i) :
    (s.drive i).afterCycle.sameCore s.settled := by
  refine (sameCore_iff _ _).mpr ⟨?_, sameReceiver_afterCycle_of_quiet hi, ?_⟩
  · rw [afterCycle_build, settled_build, drive_build]
  · obtain ⟨h1, h2, h3, h4⟩ := sameTransmitter_settled s
    exact sameTransmitter_trans (sameTransmitter_afterCycle_of_quiet hs hi) ⟨h1.symm, h2.symm, h3.symm, h4.symm⟩

/-- Once the strobes have fallen, they have fallen: a core that is some settled one settles to the same. -/
theorem sameCore_settled_of_sameCore {s u : State} (h : s.sameCore u.settled) : s.settled.sameCore u.settled := by
  obtain ⟨hb, ⟨h1, h2, h3, h4, h5, h6, h7, h8, h9⟩, h10⟩ := (sameCore_iff _ _).mp h
  refine (sameCore_iff _ _).mpr ⟨(settled_build s).trans hb, ?_, sameTransmitter_trans (sameTransmitter_settled s) h10⟩
  have hpath : s.build.paths.includeRx = u.build.paths.includeRx := by rw [hb, settled_build]
  unfold State.settled at *
  cases hrx : u.build.paths.includeRx with
  | true =>
    simp only [hrx, hpath, if_true] at h1 h2 h3 h4 h5 h6 h7 ⊢
    exact ⟨h1, h2, h3, h4, h5, h6, h7, rfl, rfl⟩
  | false =>
    simp only [hrx, hpath, Bool.false_eq_true, if_false] at h1 h2 h3 h4 h5 h6 h7 h8 h9 ⊢
    exact ⟨h1, h2, h3, h4, h5, h6, h7, h8, h9⟩

/-- Cores that are the same are at rest together. -/
theorem transmitterAtRest_congr {s t : State} (h : t.sameTransmitter s) (hs : s.TransmitterAtRest) :
    t.TransmitterAtRest := by
  obtain ⟨hstate, -, -, hline⟩ := h
  obtain ⟨hreserved, hidle⟩ := hs
  exact ⟨by rwa [hstate], by rwa [hstate, hline]⟩

theorem sameCore_trans {s t u : State} (h : s.sameCore t) (h' : t.sameCore u) : s.sameCore u := by
  obtain ⟨hb, hr, hx⟩ := (sameCore_iff _ _).mp h
  obtain ⟨hb', hr', hx'⟩ := (sameCore_iff _ _).mp h'
  exact (sameCore_iff _ _).mpr ⟨hb.trans hb', sameReceiver_trans hr hr', sameTransmitter_trans hx hx'⟩

/-- Quiet cycles, any number of them, leave a settled core as it is. -/
theorem runInputs_of_quiet {ins : List Inputs} {s u : State} (hs : s.TransmitterAtRest) (hins : ∀ i ∈ ins, QuietInputs i)
    (h : s.sameCore u.settled) : ∃ t : State, runInputs ins s = .next t ∧ t.sameCore u.settled := by
  induction ins generalizing s with
  | nil => exact ⟨s, rfl, h⟩
  | cons i rest ih =>
    obtain ⟨hi, hrest⟩ := List.forall_mem_cons.mp hins
    rw [runInputs_cons]
    exact ih (transmitterAtRest_congr (sameTransmitter_afterCycle_of_quiet hs hi) hs) hrest
      (sameCore_trans (sameCore_afterCycle_of_quiet hs hi) (sameCore_settled_of_sameCore h))

/-- Settles O45: the first quiet cycle settles the core, and the others leave it settled. -/
theorem quietCyclesChangeOnlyStrobes : Obligations.QuietCyclesChangeOnlyStrobes := by
  intro ins s hs hins hne
  have hrest : s.TransmitterAtRest := ⟨hs.txState_not_reserved, fun h => (hs.idle_at_rest h).1⟩
  cases ins with
  | nil => exact absurd rfl hne
  | cons i rest =>
    obtain ⟨hi, hquiet⟩ := List.forall_mem_cons.mp hins
    obtain ⟨t, ht, hcore⟩ := runInputs_of_quiet
      (transmitterAtRest_congr (sameTransmitter_afterCycle_of_quiet hrest hi) hrest) hquiet
      (sameCore_afterCycle_of_quiet hrest hi)
    refine ⟨t, (runInputs_cons i rest s).trans ht, fun hpath => ?_, fun hpath => ?_⟩
    · rwa [State.settled, if_pos hpath] at hcore
    · rwa [State.settled, if_neg (by simp [hpath])] at hcore

end Sys2Proof.Machine
end

section
/-! Frames through the ideal channel's loopback: where both ends stand after each shared tick, from a capture through the
frame and the idle line behind it, and the runs made of such cycles (spec/45_external_interfaces.md R193, R202). -/

namespace Sys2Proof.Machine

/-! ## A loopback's cycles as a total function -/

/-- The state a loopback's cycle ends in. -/
def State.afterLoop (low high : Nat) (s : State) (c : LoopCycle) : State :=
  (s.drive (c.inputs low high s)).afterCycle

theorem loopbackTrace_cons (low high : Nat) (c : LoopCycle) (rest : List LoopCycle) (s : State) :
    loopbackTrace low high (c :: rest) s =
      s.afterLoop low high c :: loopbackTrace low high rest (s.afterLoop low high c) :=
  loopbackTrace_cons_of_next (step_eq_next_afterCycle _)

theorem length_loopbackTrace (low high : Nat) (cycles : List LoopCycle) (s : State) :
    (loopbackTrace low high cycles s).length = cycles.length := by
  induction cycles generalizing s with
  | nil => rfl
  | cons c rest ih => rw [loopbackTrace_cons, List.length_cons, List.length_cons, ih]

theorem loopbackTrace_append (low high : Nat) (xs ys : List LoopCycle) (s : State) :
    loopbackTrace low high (xs ++ ys) s =
      loopbackTrace low high xs s ++ loopbackTrace low high ys (xs.foldl (State.afterLoop low high) s) := by
  induction xs generalizing s with
  | nil => rfl
  | cons c rest ih => rw [List.cons_append, loopbackTrace_cons, loopbackTrace_cons, ih, List.cons_append, List.foldl_cons]

/-! ## What the receiver reads of the line -/

theorem idealChannel_iff (b : Build) (low high : Nat) :
    idealChannel b low high = true ↔ 1 ≤ b.threshold ∧ low + b.threshold ≤ high ∧ high < 2 ^ b.sampleBits := by
  simp [idealChannel, sampleInRange, and_assoc]

/-- A rise of the line by `THRESHOLD` or more reads HIGH whatever was read before (R107). -/
theorem demod_rise {threshold low high : Nat} (hT : 1 ≤ threshold) (h : low + threshold ≤ high) (symbol : Symbol) :
    demod threshold symbol low high = HIGH := by
  cases symbol with
  | false => exact (decideFromLow_iff _ _ _).mpr h
  | true => exact (decideFromHigh_iff _ _ _).mpr (by omega)

/-- Once the symbol is the line's level, it follows the line (R107). -/
theorem demod_idealSample {threshold low high : Nat} (hT : 1 ≤ threshold) (h : low + threshold ≤ high)
    (old new : Level) :
    demod threshold old (idealSample low high old) (idealSample low high new) = new := by
  cases old with
  | false =>
    cases new with
    | false =>
      have hnot : ¬ decideFromLow threshold low low = true := by rw [decideFromLow_iff]; omega
      exact Bool.eq_false_of_not_eq_true hnot
    | true => exact demod_rise hT h false
  | true =>
    cases new with
    | false =>
      have hnot : ¬ decideFromHigh threshold high low = true := by rw [decideFromHigh_iff]; omega
      exact Bool.eq_false_of_not_eq_true hnot
    | true => exact (decideFromHigh_iff _ _ _).mpr (by omega)

/-- The next symbol depends on the threshold and the two registers that a receiver tick writes (R79, R102). -/
theorem symbolOf_congr {s t : State} (hb : t.build = s.build) (hsample : t.prevSample = s.prevSample)
    (hsymbol : t.prevSymbol = s.prevSymbol) (x : Nat) : t.symbolOf x = s.symbolOf x := by
  rw [State.symbolOf, State.symbolOf, hb, hsample, hsymbol]

/-- The port carries the ideal channel's samples unchanged (R83, R193). -/
theorem loopback_sampleIn {s : State} {low high : Nat} (h : idealChannel s.build low high = true) :
    (s.drive (loopbackInputs low high s)).sampleIn = idealSample low high s.lineOut := by
  obtain ⟨-, hrise, hhigh⟩ := (idealChannel_iff _ _ _).mp h
  have hlt : idealSample low high s.lineOut < 2 ^ s.build.sampleBits := by
    unfold idealSample
    split <;> omega
  exact Nat.mod_eq_of_lt hlt

/-! ## The accumulators as the frame passes -/

/-- `acc` after the first `j` symbols of a preamble (R71, R126). -/
def preambleShift (acc : Byte) : Nat → Byte
  | 0 => acc
  | j + 1 => shift8 (preambleShift acc j) (Config.preamble.getLsbD (7 - j))

/-- Eight symbols of the preamble leave nothing of what the accumulator held before (R126). -/
theorem preambleShift_eight (acc : Byte) : preambleShift acc 8 = Config.preamble := by
  revert acc
  decide

/-- Before its eighth symbol a preamble matches only behind `101100` (R126). -/
theorem preambleShift_ne_preamble :
    ∀ acc : Byte, acc.extractLsb' 0 6 ≠ 0b101100#6 → ∀ j < 7, preambleShift acc (j + 1) ≠ Config.preamble := by
  decide

/-- The matched preamble under `n` LOW symbols never matches again, nor does it end in `101100` (R127). -/
theorem preamble_shiftLeft_safe (n : Nat) :
    Config.preamble <<< (n + 1) ≠ Config.preamble ∧ (Config.preamble <<< (n + 1)).extractLsb' 0 6 ≠ 0b101100#6 := by
  by_cases hn : n < 8
  · revert n
    decide
  · rw [BitVec.shiftLeft_eq_zero (by omega)]
    decide

theorem shift8_low (acc : Byte) : shift8 acc LOW = acc <<< 1 := by
  simp [shift8]

/-- The upper bits of a byte, and the next bit below them, are one bit more of it (R140). -/
theorem shift8_ushiftRight (payload : Byte) (n : Nat) :
    shift8 (payload >>> (n + 1)) (payload.getLsbD n) = payload >>> n := by
  apply BitVec.eq_of_getLsbD_eq
  intro k hk
  cases k with
  | zero => rw [shift8_getLsbD_zero, BitVec.getLsbD_ushiftRight, Nat.add_zero]
  | succ k =>
    rw [shift8_getLsbD_succ _ _ _ hk, BitVec.getLsbD_ushiftRight, BitVec.getLsbD_ushiftRight]
    congr 1
    omega

/-! ## Where both ends stand, counted in ticks from the capture -/

/-- The level on the line after `k` ticks from the capture of `payload` (R169). -/
def levelAt (payload : Byte) (k : Nat) : Level :=
  if k ≤ 16 then (frameOf payload).getLsbD (16 - k) else LOW

theorem levelAt_zero (payload : Byte) : levelAt payload 0 = LOW := by
  rw [levelAt, if_pos (by omega), frameOf_getLsbD]
  rfl

theorem levelAt_preamble (payload : Byte) {j : Nat} (hj : j < 8) :
    levelAt payload (j + 1) = Config.preamble.getLsbD (7 - j) := by
  rw [levelAt, if_pos (by omega), frameOf_getLsbD, if_neg (by omega)]
  congr 1
  omega

theorem levelAt_payload (payload : Byte) {j : Nat} (hj : j < 8) :
    levelAt payload (j + 9) = payload.getLsbD (7 - j) := by
  rw [levelAt, if_pos (by omega), frameOf_getLsbD, if_pos (by omega)]
  congr 1
  omega

theorem levelAt_rest (payload : Byte) (j : Nat) : levelAt payload (j + 17) = LOW := if_neg (by omega)

/-- The transmitter `k` ticks after it captured `payload` (R161 to R166, R169). -/
inductive TransmitterAt (payload : Byte) (s : State) : Nat → Prop
  | armed (hstate : s.txState = .armed) (hframe : s.txFrame = frameOf payload) (hline : s.lineOut = LOW) :
      TransmitterAt payload s 0
  | sending (j : Nat) (hj : j < 16) (hstate : s.txState = .send) (hframe : s.txFrame = frameOf payload)
      (hindex : s.txIndex.toNat = j + 1) (hline : s.lineOut = (frameOf payload).getLsbD (15 - j)) :
      TransmitterAt payload s (j + 1)
  | resting (j : Nat) (hstate : s.txState = .idle) (hline : s.lineOut = LOW) : TransmitterAt payload s (j + 17)

/-- A scanner that the idle sample can neither bring to a match nor make end in `101100` (R126). -/
structure ReadyScanner (low : Nat) (s : State) : Prop where
  scanning : s.rxMode = .scan
  no_match : shift8 s.scanAcc (s.symbolOf low) ≠ Config.preamble
  safe : (shift8 s.scanAcc (s.symbolOf low)).extractLsb' 0 6 ≠ 0b101100#6

/-- The receiver that reads the line of that transmitter, `k` shared ticks after the capture: it scans the preamble,
frames the payload, and scans the idle line (R120, R140, R141). -/
inductive ReceiverAt (payload : Byte) (low : Nat) (s : State) : Nat → Prop
  | waiting (hready : ReadyScanner low s) : ReceiverAt payload low s 0
  | scanning (j : Nat) (hj : j < 8) (acc : Byte) (hsafe : acc.extractLsb' 0 6 ≠ 0b101100#6) (hmode : s.rxMode = .scan)
      (hacc : s.scanAcc = preambleShift acc j) : ReceiverAt payload low s (j + 1)
  | framing (j : Nat) (hj : j < 8) (hmode : s.rxMode = .frame) (hcount : s.payCount.toNat = j)
      (hpay : s.payAcc = payload >>> (8 - j)) (hacc : s.scanAcc = Config.preamble) : ReceiverAt payload low s (j + 9)
  | resting (j : Nat) (hmode : s.rxMode = .scan) (hbyte : s.rxByte = payload)
      (hacc : s.scanAcc = Config.preamble <<< j) : ReceiverAt payload low s (j + 17)

theorem transmitterAt_congr {payload : Byte} {s t : State} {k : Nat} (h : t.sameTransmitter s)
    (hs : TransmitterAt payload s k) : TransmitterAt payload t k := by
  obtain ⟨h1, h2, h3, h4⟩ := h
  cases hs with
  | armed hstate hframe hline => exact .armed (h1.trans hstate) (h2.trans hframe) (h4.trans hline)
  | sending j hj hstate hframe hindex hline =>
    exact .sending j hj (h1.trans hstate) (h2.trans hframe) (by rw [h3, hindex]) (h4.trans hline)
  | resting j hstate hline => exact .resting j (h1.trans hstate) (h4.trans hline)

/-- Whether the scanner is ready does not depend on the strobes. -/
theorem readyScanner_congr {low : Nat} {s t : State} (hb : t.build = s.build)
    (h : t.sameReceiver (s.setStrobes t.rxSync t.rxValid)) (hs : ReadyScanner low s) : ReadyScanner low t := by
  obtain ⟨h1, h2, h3, h4, -, -, -, -, -⟩ := h
  have hsymbol : t.symbolOf low = s.symbolOf low := symbolOf_congr hb h1 h2 low
  obtain ⟨hscan, hmatch, hsafe⟩ := hs
  exact ⟨h4.trans hscan, by rwa [hsymbol, h3], by rwa [hsymbol, h3]⟩

/-- Where the receiver stands does not depend on the strobes. -/
theorem receiverAt_congr {payload : Byte} {low : Nat} {s t : State} {k : Nat} (hb : t.build = s.build)
    (h : t.sameReceiver (s.setStrobes t.rxSync t.rxValid)) (hs : ReceiverAt payload low s k) :
    ReceiverAt payload low t k := by
  obtain ⟨-, -, h3, h4, h5, h6, h7, -, -⟩ := id h
  cases hs with
  | waiting hready => exact .waiting (readyScanner_congr hb h hready)
  | scanning j hj acc hsafe hmode hacc => exact .scanning j hj acc hsafe (h4.trans hmode) (h3.trans hacc)
  | framing j hj hmode hcount hpay hacc =>
    exact .framing j hj (h4.trans hmode) (by rw [h6]; exact hcount) (h5.trans hpay) (h3.trans hacc)
  | resting j hmode hbyte hacc => exact .resting j (h4.trans hmode) (h7.trans hbyte) (h3.trans hacc)

theorem TransmitterAt.lineOut_eq {payload : Byte} {s : State} {k : Nat} (h : TransmitterAt payload s k) :
    s.lineOut = levelAt payload k := by
  cases h with
  | armed _ _ hline => rw [hline, levelAt_zero]
  | sending j hj _ _ _ hline =>
    rw [hline, levelAt, if_pos (by omega)]
    congr 1
    omega
  | resting j _ hline => rw [hline, levelAt_rest]

theorem TransmitterAt.atRest {payload : Byte} {s : State} {k : Nat} (h : TransmitterAt payload s k) :
    s.TransmitterAtRest := by
  cases h with
  | armed hstate | sending _ _ hstate => exact ⟨by simp [hstate], by simp [hstate]⟩
  | resting _ hstate hline => exact ⟨by simp [hstate], fun _ => hline⟩

/-! ## One cycle -/

/-- A tick without a request takes the transmitter one place on (R163, R165, R166). -/
theorem TransmitterAt.afterCycle {payload : Byte} {s : State} {k : Nat} (h : TransmitterAt payload s k)
    (htx : s.build.paths.includeTx = true) (hrst : s.inputs.rst = false) (htick : s.inputs.txTick = true)
    (hstart : s.inputs.txStart = false) : TransmitterAt payload s.afterCycle (k + 1) := by
  cases h with
  | armed hstate hframe hline =>
    refine transmitterAt_congr (sameTransmitter_afterCycle htx (.firstBit hrst hstate htick)) ?_
    exact .sending 0 (by omega) rfl hframe rfl (by rw [startSending_lineOut, hframe])
  | sending j hj hstate hframe hindex hline =>
    by_cases hlast : j + 1 < 16
    · refine transmitterAt_congr (sameTransmitter_afterCycle htx (.bit hrst hstate htick (by omega))) ?_
      refine .sending (j + 1) hlast hstate hframe (by rw [sendBit_txIndex]; bv_omega) ?_
      rw [sendBit_lineOut, frameBit_of_le _ _ (by omega), hindex, hframe]
    · obtain rfl : j = 15 := by omega
      refine transmitterAt_congr (sameTransmitter_afterCycle htx (.last hrst hstate htick (by omega))) ?_
      exact .resting 0 rfl rfl
  | resting j hstate hline =>
    refine transmitterAt_congr (sameTransmitter_afterCycle htx (.idle hrst hstate hstart)) ?_
    exact .resting (j + 1) hstate rfl

/-- What a shared tick leaves of the receiver: its next place, `rx_sync` after the 9th tick from the capture alone and
`rx_valid` after the 17th alone (the first of those ticks still reads the idle line). -/
structure ReceiverTicked (payload : Byte) (low : Nat) (s : State) (k : Nat) : Prop where
  at_next : ReceiverAt payload low s (k + 1)
  rxSync_iff : s.rxSync = true ↔ k + 1 = 9
  rxValid_iff : s.rxValid = true ↔ k + 1 = 17

theorem receiverTicked_congr {payload : Byte} {low : Nat} {s t : State} {k : Nat} (hb : t.build = s.build)
    (h : t.sameReceiver s) (hs : ReceiverTicked payload low s k) : ReceiverTicked payload low t k := by
  obtain ⟨hnext, hsync, hvalid⟩ := hs
  obtain ⟨h1, h2, h3, h4, h5, h6, h7, h8, h9⟩ := h
  exact ⟨receiverAt_congr hb ⟨h1, h2, h3, h4, h5, h6, h7, rfl, rfl⟩ hnext, by rwa [h8], by rwa [h9]⟩

/-- The row a tick selects, for a receiver that reads the level of the line, or the idle sample before the first bit. -/
theorem ReceiverAt.exists_receiverCycle {payload : Byte} {low : Nat} {s : State} {k : Nat}
    (h : ReceiverAt payload low s k) (hrst : s.inputs.rst = false) (htick : s.inputs.rxTick = true)
    (hidle : k = 0 → s.sampleIn = low) (hreads : 1 ≤ k → s.symbolOf s.sampleIn = levelAt payload k) :
    ∃ u, ReceiverCycle s u ∧ ReceiverTicked payload low u k := by
  cases h with
  | waiting hready =>
    obtain ⟨hmode, hmatch, hsafe⟩ := hready
    rw [← hidle rfl] at hmatch hsafe
    exact ⟨_, .scanMiss hrst htick hmode hmatch, .scanning 0 (by omega) _ hsafe hmode rfl, by simp, by simp⟩
  | scanning j hj acc hsafe hmode hacc =>
    have hshift : shift8 s.scanAcc (s.symbolOf s.sampleIn) = preambleShift acc (j + 1) := by
      rw [hreads (by omega), levelAt_preamble payload hj, hacc, preambleShift]
    by_cases hlast : j + 1 < 8
    · have hmiss : shift8 s.scanAcc (s.symbolOf s.sampleIn) ≠ Config.preamble := by
        rw [hshift]
        exact preambleShift_ne_preamble acc hsafe j (by omega)
      exact ⟨_, .scanMiss hrst htick hmode hmiss, .scanning (j + 1) hlast acc hsafe hmode hshift,
        by simp; omega, by simp; omega⟩
    · obtain rfl : j = 7 := by omega
      have hmatch := hshift.trans (preambleShift_eight acc)
      refine ⟨_, .scanMatch hrst htick hmode hmatch, .framing 0 (by omega) rfl rfl ?_ hmatch, by simp, by simp⟩
      exact (BitVec.ushiftRight_eq_zero (by omega)).symm
  | framing j hj hmode hcount hpay hacc =>
    have hshift : shift8 s.payAcc (s.symbolOf s.sampleIn) = payload >>> (7 - j) := by
      have hn : 8 - j = 7 - j + 1 := by omega
      rw [hreads (by omega), levelAt_payload payload hj, hpay, hn, shift8_ushiftRight]
    by_cases hlast : j + 1 < 8
    · have hmore : s.payCount ≠ 7#3 := by bv_omega
      have hn : 8 - (j + 1) = 7 - j := by omega
      refine ⟨_, .frameTick hrst htick hmode hmore,
        .framing (j + 1) hlast hmode ?_ (by rw [hn]; exact hshift) hacc, by simp, by simp; omega⟩
      rw [setStrobes_payCount, pushPayload_payCount, demodTick_payCount]
      bv_omega
    · obtain rfl : j = 7 := by omega
      have hend : s.payCount = 7#3 := by bv_omega
      refine ⟨_, .frameLast hrst htick hmode hend, .resting 0 rfl ?_ ?_, by simp, by simp⟩
      · exact hshift.trans (BitVec.ushiftRight_zero payload)
      · exact hacc.trans (BitVec.shiftLeft_zero _).symm
  | resting j hmode hbyte hacc =>
    have hshift : shift8 s.scanAcc (s.symbolOf s.sampleIn) = Config.preamble <<< (j + 1) := by
      rw [hreads (by omega), levelAt_rest, shift8_low, hacc, BitVec.shiftLeft_add]
    have hmiss : shift8 s.scanAcc (s.symbolOf s.sampleIn) ≠ Config.preamble := by
      rw [hshift]
      exact (preamble_shiftLeft_safe j).1
    exact ⟨_, .scanMiss hrst htick hmode hmiss, .resting (j + 1) hmode hbyte hshift, by simp, by simp⟩

/-- A receiver tick writes the sample and the symbol back, whatever its row (R102). -/
theorem ReceiverCycle.writes_back {s u : State} (h : ReceiverCycle s u) (hrst : s.inputs.rst = false)
    (htick : s.inputs.rxTick = true) : u.prevSample = s.sampleIn ∧ u.prevSymbol = s.symbolOf s.sampleIn := by
  cases h with
  | reset h => simp [hrst] at h
  | wait _ h => simp [htick] at h
  | scanMatch | scanMiss | frameTick | frameLast => exact ⟨rfl, rfl⟩

/-- Both ends of a loopback `k` shared ticks after the capture of `payload`, on the ideal channel. From the first tick on
the symbol the receiver decides next is the line's level. -/
structure LoopbackAt (low high : Nat) (payload : Byte) (k : Nat) (s : State) : Prop where
  paths : s.build.paths = .both
  channel : idealChannel s.build low high = true
  transmitter : TransmitterAt payload s k
  receiver : ReceiverAt payload low s k
  reads_line : 1 ≤ k → s.symbolOf (idealSample low high s.lineOut) = s.lineOut

theorem includeRx_of_both {b : Build} (h : b.paths = .both) : b.paths.includeRx = true := by rw [h]; rfl

theorem includeTx_of_both {b : Build} (h : b.paths = .both) : b.paths.includeTx = true := by rw [h]; rfl

@[simp] theorem afterLoop_build (low high : Nat) (s : State) (c : LoopCycle) :
    (s.afterLoop low high c).build = s.build := by
  rw [State.afterLoop, afterCycle_build, drive_build]

/-- A wait leaves a loopback where it is and the strobes low (R75). -/
theorem LoopbackAt.wait {low high k : Nat} {payload : Byte} {s : State} (h : LoopbackAt low high payload k s) :
    LoopbackAt low high payload k (s.afterLoop low high .wait) ∧
      (s.afterLoop low high .wait).rxSync = false ∧ (s.afterLoop low high .wait).rxValid = false := by
  obtain ⟨hpaths, hchannel, htransmitter, hreceiver, hreads⟩ := h
  have hquiet : QuietInputs (LoopCycle.wait.inputs low high s) := ⟨rfl, rfl, rfl, rfl⟩
  have htx := sameTransmitter_afterCycle_of_quiet htransmitter.atRest hquiet
  have hrx := sameReceiver_afterCycle_of_quiet (s := s) hquiet
  rw [State.settled, if_pos (includeRx_of_both hpaths)] at hrx
  have hb := afterLoop_build low high s .wait
  obtain ⟨h1, h2, h3, h4, h5, h6, h7, hsync, hvalid⟩ := hrx
  have hline : (s.afterLoop low high .wait).lineOut = s.lineOut := by
    obtain ⟨-, -, -, hline⟩ := htx
    exact hline
  refine ⟨⟨hb ▸ hpaths, hb ▸ hchannel, transmitterAt_congr htx htransmitter,
    receiverAt_congr hb ⟨h1, h2, h3, h4, h5, h6, h7, rfl, rfl⟩ hreceiver, fun hk => ?_⟩, hsync, hvalid⟩
  rw [symbolOf_congr hb h1 h2, hline]
  exact hreads hk

/-- A shared tick takes a loopback one place on. -/
theorem LoopbackAt.tick {low high k : Nat} {payload : Byte} {s : State} (h : LoopbackAt low high payload k s) :
    LoopbackAt low high payload (k + 1) (s.afterLoop low high .tick) ∧
      ((s.afterLoop low high .tick).rxSync = true ↔ k + 1 = 9) ∧
      ((s.afterLoop low high .tick).rxValid = true ↔ k + 1 = 17) := by
  obtain ⟨hpaths, hchannel, htransmitter, hreceiver, hreads⟩ := h
  obtain ⟨hT, hrise, -⟩ := (idealChannel_iff _ _ _).mp hchannel
  have hb := afterLoop_build low high s .tick
  have hx := loopback_sampleIn hchannel
  have htx : TransmitterAt payload (s.afterLoop low high .tick) (k + 1) :=
    (transmitterAt_congr (s := s) (t := s.drive (loopbackInputs low high s)) ⟨rfl, rfl, rfl, rfl⟩ htransmitter).afterCycle
      (includeTx_of_both hpaths) rfl rfl rfl
  have hat : ReceiverAt payload low (s.drive (loopbackInputs low high s)) k :=
    receiverAt_congr (s := s) rfl ⟨rfl, rfl, rfl, rfl, rfl, rfl, rfl, rfl, rfl⟩ hreceiver
  obtain ⟨u, hu, hticked⟩ := hat.exists_receiverCycle rfl rfl
    (fun hk => by rw [hx, htransmitter.lineOut_eq, hk, levelAt_zero]; rfl)
    (fun hk => by rw [hx, drive_symbolOf, hreads hk, htransmitter.lineOut_eq])
  have hsame : (s.afterLoop low high .tick).sameReceiver u := sameReceiver_afterCycle (includeRx_of_both hpaths) hu
  have hub : (s.afterLoop low high .tick).build = u.build := hb.trans hu.build_eq.symm
  obtain ⟨hnext, hsync, hvalid⟩ := receiverTicked_congr hub hsame hticked
  obtain ⟨hsample, hsymbol⟩ := hu.writes_back rfl rfl
  obtain ⟨hprevSample, hprevSymbol, -⟩ := hsame
  refine ⟨⟨hb ▸ hpaths, hb ▸ hchannel, htx, hnext, fun _ => ?_⟩, hsync, hvalid⟩
  rw [State.symbolOf, hb, hprevSample, hprevSymbol, hsample, hsymbol, hx, drive_symbolOf]
  by_cases hk : 1 ≤ k
  · rw [hreads hk]
    exact demod_idealSample hT hrise _ _
  · obtain rfl : k = 0 := by omega
    rw [htx.lineOut_eq, htransmitter.lineOut_eq, levelAt_zero, levelAt_preamble payload (by omega)]
    exact demod_rise hT hrise _

/-- A loopback on the ideal channel that can take a request: its transmitter is idle and its scanner ready. -/
structure ReadyLoopback (low high : Nat) (s : State) : Prop where
  paths : s.build.paths = .both
  channel : idealChannel s.build low high = true
  idle : s.txState = .idle
  scanner : ReadyScanner low s

/-- A request to a ready loopback captures the payload, and the strobes fall (R106, R161). -/
theorem ReadyLoopback.request {low high : Nat} {s : State} (h : ReadyLoopback low high s) (payload : Byte) :
    LoopbackAt low high payload 0 (s.afterLoop low high (.request payload)) ∧
      (s.afterLoop low high (.request payload)).rxSync = false ∧
      (s.afterLoop low high (.request payload)).rxValid = false := by
  obtain ⟨hpaths, hchannel, hstate, hready⟩ := h
  have hb := afterLoop_build low high s (.request payload)
  have htx : (s.afterLoop low high (.request payload)).sameTransmitter (s.captureFrame payload) :=
    sameTransmitter_afterCycle (s := s.drive (lineInputs [.tx payload])) (u := (s.drive _).captureFrame payload)
      (includeTx_of_both hpaths) (.capture rfl hstate rfl)
  obtain ⟨h1, h2, h3, h4, h5, h6, h7, hsync, hvalid⟩ :
      (s.afterLoop low high (.request payload)).sameReceiver (s.setStrobes false false) :=
    sameReceiver_afterCycle (s := s.drive (lineInputs [.tx payload])) (u := (s.drive _).setStrobes false false)
      (includeRx_of_both hpaths) (.wait rfl rfl)
  exact ⟨⟨hb ▸ hpaths, hb ▸ hchannel, transmitterAt_congr htx (.armed rfl rfl rfl),
    .waiting (readyScanner_congr hb ⟨h1, h2, h3, h4, h5, h6, h7, rfl, rfl⟩ hready), by omega⟩, hsync, hvalid⟩

/-- After a frame the idle line leaves the scanner ready for the next one (R127). -/
theorem LoopbackAt.ready {low high k : Nat} {payload : Byte} {s : State} (h : LoopbackAt low high payload k s)
    (hk : 17 ≤ k) : ReadyLoopback low high s := by
  obtain ⟨hpaths, hchannel, htransmitter, hreceiver, hreads⟩ := h
  have hidle : s.txState = .idle := by
    cases htransmitter with
    | armed | sending => omega
    | resting _ hstate => exact hstate
  have hline : s.lineOut = LOW := by
    rw [htransmitter.lineOut_eq, levelAt, if_neg (by omega)]
  have hsymbol : s.symbolOf low = LOW := by
    have hread := hreads (by omega)
    rwa [hline] at hread
  refine ⟨hpaths, hchannel, hidle, ?_⟩
  cases hreceiver with
  | waiting | scanning | framing => omega
  | resting j hmode _ hacc =>
    have hshift : shift8 s.scanAcc (s.symbolOf low) = Config.preamble <<< (j + 1) := by
      rw [hsymbol, shift8_low, hacc, BitVec.shiftLeft_add]
    obtain ⟨hmatch, hsafe⟩ := preamble_shiftLeft_safe j
    exact ⟨hmode, by rwa [hshift], by rwa [hshift]⟩

/-- The byte is the payload once the last payload tick has come (R141). -/
theorem LoopbackAt.rxByte_eq {low high k : Nat} {payload : Byte} {s : State} (h : LoopbackAt low high payload k s)
    (hk : 17 ≤ k) : s.rxByte = payload := by
  cases h.receiver with
  | waiting | scanning | framing => omega
  | resting _ _ hbyte => exact hbyte

/-- When the frame ends, the scanner still holds the match (R124). -/
theorem LoopbackAt.scanAcc_eq {low high : Nat} {payload : Byte} {s : State} (h : LoopbackAt low high payload 17 s) :
    s.scanAcc = Config.preamble := by
  cases h.receiver with
  | scanning | framing => omega
  | resting _ _ _ hacc => exact hacc.trans (BitVec.shiftLeft_zero _)

/-! ## Runs of ticks and waits -/

/-- Cycles of a loopback without a request. -/
def NoRequest (cycles : List LoopCycle) : Prop := ∀ payload : Byte, LoopCycle.request payload ∉ cycles

theorem noRequest_cons {c : LoopCycle} {rest : List LoopCycle} (h : NoRequest (c :: rest)) :
    (c = .wait ∨ c = .tick) ∧ NoRequest rest := by
  refine ⟨?_, fun payload hmem => h payload (List.mem_cons_of_mem c hmem)⟩
  cases c with
  | wait => exact .inl rfl
  | tick => exact .inr rfl
  | request payload => exact absurd List.mem_cons_self (h payload)

/-- Ticks and waits take a loopback as many places on as there are ticks. -/
theorem LoopbackAt.foldl {low high k : Nat} {payload : Byte} {s : State} (h : LoopbackAt low high payload k s)
    {cycles : List LoopCycle} (hcycles : NoRequest cycles) :
    LoopbackAt low high payload (k + cycles.count .tick) (cycles.foldl (State.afterLoop low high) s) := by
  induction cycles generalizing k s with
  | nil => exact h
  | cons c rest ih =>
    obtain ⟨hc, hrest⟩ := noRequest_cons hcycles
    rcases hc with rfl | rfl
    · exact ih h.wait.1 hrest
    · have hcount : k + (LoopCycle.tick :: rest).count .tick = k + 1 + rest.count .tick := by
        rw [List.count_cons_self]
        omega
      rw [hcount]
      exact ih h.tick.1 hrest

/-- `strobe` is 1 after the tick that brings a loopback of `payload` to place `p`, and after no other tick or wait. -/
structure StrobeAt (low high : Nat) (payload : Byte) (strobe : State → Bool) (p : Nat) : Prop where
  wait : ∀ k s, LoopbackAt low high payload k s → strobe (s.afterLoop low high .wait) = false
  tick : ∀ k s, LoopbackAt low high payload k s → (strobe (s.afterLoop low high .tick) = true ↔ k + 1 = p)

theorem rxSync_strobeAt (low high : Nat) (payload : Byte) : StrobeAt low high payload (·.rxSync) 9 where
  wait _ _ h := by
    obtain ⟨-, hsync, -⟩ := h.wait
    exact hsync
  tick _ _ h := by
    obtain ⟨-, hsync, -⟩ := h.tick
    exact hsync

theorem rxValid_strobeAt (low high : Nat) (payload : Byte) : StrobeAt low high payload (·.rxValid) 17 where
  wait _ _ h := by
    obtain ⟨-, -, hvalid⟩ := h.wait
    exact hvalid
  tick _ _ h := by
    obtain ⟨-, -, hvalid⟩ := h.tick
    exact hvalid

/-- The state a trace shows after a cycle is what that cycle makes of the cycles before it. -/
theorem getElem?_loopbackTrace (low high : Nat) (cycles : List LoopCycle) (s : State) (n : Nat) :
    (loopbackTrace low high cycles s)[n]? =
      cycles[n]?.map (State.afterLoop low high ((cycles.take n).foldl (State.afterLoop low high) s)) := by
  induction cycles generalizing n s with
  | nil => rfl
  | cons c rest ih =>
    rw [loopbackTrace_cons]
    cases n with
    | zero => rfl
    | succ n => rw [List.getElem?_cons_succ, ih, List.getElem?_cons_succ, List.take_succ_cons, List.foldl_cons]

theorem getLast?_loopbackTrace (low high : Nat) {cycles : List LoopCycle} (hne : cycles ≠ []) (s : State) :
    (loopbackTrace low high cycles s).getLast? = some (cycles.foldl (State.afterLoop low high) s) := by
  obtain ⟨xs, c, rfl⟩ := (List.eq_nil_or_concat' cycles).resolve_left hne
  rw [loopbackTrace_append, loopbackTrace_cons, loopbackTrace_nil, List.getLast?_append, List.foldl_append]
  rfl

/-- In a run of ticks and waits a strobe is 1 exactly after the tick that reaches its place. -/
theorem StrobeAt.getElem?_iff {low high p k : Nat} {payload : Byte} {strobe : State → Bool}
    (hstrobe : StrobeAt low high payload strobe p) {cycles : List LoopCycle} (hcycles : NoRequest cycles) {s : State}
    (h : LoopbackAt low high payload k s) (n : Nat) :
    (loopbackTrace low high cycles s)[n]?.map strobe = some true ↔
      cycles[n]? = some .tick ∧ k + (cycles.take (n + 1)).count .tick = p := by
  rw [getElem?_loopbackTrace, List.take_add_one, List.count_append]
  have hbefore := h.foldl (cycles := cycles.take n) fun b hb => hcycles b (List.mem_of_mem_take hb)
  cases hc : cycles[n]? with
  | none => simp
  | some c =>
    cases c with
    | wait => simp [hstrobe.wait _ _ hbefore]
    | tick => simp [hstrobe.tick _ _ hbefore, Nat.add_assoc]
    | request b => exact absurd (List.mem_of_getElem? hc) (hcycles b)

/-- Past its place a strobe stays 0. -/
theorem StrobeAt.filter_eq_nil {low high p k : Nat} {payload : Byte} {strobe : State → Bool}
    (hstrobe : StrobeAt low high payload strobe p) {cycles : List LoopCycle} (hcycles : NoRequest cycles) {s : State}
    (h : LoopbackAt low high payload k s) (hk : p ≤ k) : (loopbackTrace low high cycles s).filter strobe = [] := by
  induction cycles generalizing k s with
  | nil => rfl
  | cons c rest ih =>
    obtain ⟨hc, hrest⟩ := noRequest_cons hcycles
    rw [loopbackTrace_cons]
    rcases hc with rfl | rfl
    · rw [List.filter_cons_of_neg (by simp [hstrobe.wait _ _ h])]
      exact ih hrest h.wait.1 hk
    · have hlow : ¬ strobe (s.afterLoop low high .tick) = true := by
        rw [hstrobe.tick _ _ h]
        omega
      rw [List.filter_cons_of_neg hlow]
      exact ih hrest h.tick.1 (by omega)

/-- A run that passes a strobe's place shows it once, in the state at that place. -/
theorem StrobeAt.filter_eq_singleton {low high p k : Nat} {payload : Byte} {strobe : State → Bool}
    (hstrobe : StrobeAt low high payload strobe p) {cycles : List LoopCycle} (hcycles : NoRequest cycles) {s : State}
    (h : LoopbackAt low high payload k s) (hk : k < p) (hcount : p ≤ k + cycles.count .tick) :
    ∃ t, (loopbackTrace low high cycles s).filter strobe = [t] ∧ LoopbackAt low high payload p t := by
  induction cycles generalizing k s with
  | nil =>
    rw [List.count_nil] at hcount
    omega
  | cons c rest ih =>
    obtain ⟨hc, hrest⟩ := noRequest_cons hcycles
    rw [loopbackTrace_cons]
    rcases hc with rfl | rfl
    · rw [List.filter_cons_of_neg (by simp [hstrobe.wait _ _ h])]
      exact ih hrest h.wait.1 hk hcount
    · rw [List.count_cons_self] at hcount
      by_cases hlast : k + 1 = p
      · subst hlast
        rw [List.filter_cons_of_pos ((hstrobe.tick _ _ h).mpr rfl), hstrobe.filter_eq_nil hrest h.tick.1 (by omega)]
        exact ⟨_, rfl, h.tick.1⟩
      · rw [List.filter_cons_of_neg (by rwa [hstrobe.tick _ _ h])]
        exact ih hrest h.tick.1 (by omega) (by omega)

/-- Settles O46: the state given is the one after the first tick from a capture, and sixteen ticks more take it through
the frame. -/
theorem loopbackRoundTrip : Obligations.LoopbackRoundTrip := by
  intro s low high c cycles _ hpaths hchannel hstate hindex hframe hline hmode hsample hsafe hcount hcycles
  obtain ⟨hT, hrise, -⟩ := (idealChannel_iff _ _ _).mp hchannel
  have hstart : LoopbackAt low high c 1 s := by
    refine ⟨hpaths, hchannel, .sending 0 (by omega) hstate hframe (by rw [hindex]; rfl) ?_,
      .scanning 0 (by omega) s.scanAcc hsafe hmode rfl, fun _ => ?_⟩
    · rw [hline, frameOf_getLsbD]
      rfl
    · rw [hline, State.symbolOf, hsample]
      exact demod_rise hT hrise _
  have hne : cycles ≠ [] := by
    rintro rfl
    simp at hcount
  have hend := hstart.foldl hcycles
  rw [hcount] at hend
  refine ⟨length_loopbackTrace .., fun k => ?_, fun k => ?_, ?_⟩
  · rw [(rxSync_strobeAt low high c).getElem?_iff hcycles hstart]
    exact and_congr_right fun _ => by omega
  · rw [(rxValid_strobeAt low high c).getElem?_iff hcycles hstart]
    exact and_congr_right fun _ => by omega
  · rw [getLast?_loopbackTrace low high hne, Option.map_some, hend.rxByte_eq (by omega),
      (hend.ready (by omega)).idle, hend.transmitter.lineOut_eq, hend.scanAcc_eq]
    rfl

/-! ## Frames one after another -/

/-- The cycles of one frame: the request, and the ticks and waits behind it. -/
def frameCycles (frame : Byte × List LoopCycle) : List LoopCycle := .request frame.1 :: frame.2

/-- A frame's cycles that reach past its last tick: at least seventeen ticks and no further request (R169). -/
def WholeFrame (frame : Byte × List LoopCycle) : Prop := 17 ≤ frame.2.count .tick ∧ NoRequest frame.2

/-- A whole frame from a ready loopback gives one of each strobe, the second with the payload, and leaves the loopback
ready (R202). -/
theorem ReadyLoopback.wholeFrame {low high : Nat} {s : State} (h : ReadyLoopback low high s)
    {frame : Byte × List LoopCycle} (hframe : WholeFrame frame) :
    ((loopbackTrace low high (frameCycles frame) s).filter (·.rxSync)).length = 1 ∧
      ((loopbackTrace low high (frameCycles frame) s).filter (·.rxValid)).map (·.rxByte) = [frame.1] ∧
      ReadyLoopback low high ((frameCycles frame).foldl (State.afterLoop low high) s) := by
  obtain ⟨payload, body⟩ := frame
  obtain ⟨hcount, hbody⟩ := hframe
  obtain ⟨hstart, hsync, hvalid⟩ := h.request payload
  obtain ⟨t, ht, -⟩ :=
    (rxSync_strobeAt low high payload).filter_eq_singleton hbody hstart (by omega) (by omega)
  obtain ⟨u, hu, hat⟩ :=
    (rxValid_strobeAt low high payload).filter_eq_singleton hbody hstart (by omega) (by omega)
  rw [frameCycles, loopbackTrace_cons, List.filter_cons_of_neg (by simp [hsync]),
    List.filter_cons_of_neg (by simp [hvalid]), ht, hu]
  refine ⟨rfl, congrArg (fun b => [b]) (hat.rxByte_eq (Nat.le_refl _)), ?_⟩
  exact (hstart.foldl hbody).ready (by omega)

/-- Whole frames, one after another, each give one `rx_sync` and deliver their payloads in order, by induction on the
frames. -/
theorem ReadyLoopback.wholeFrames {low high : Nat} {s : State} (h : ReadyLoopback low high s)
    {frames : List (Byte × List LoopCycle)} (hframes : ∀ f ∈ frames, WholeFrame f) :
    ((loopbackTrace low high (frames.flatMap frameCycles) s).filter (·.rxSync)).length = frames.length ∧
      ((loopbackTrace low high (frames.flatMap frameCycles) s).filter (·.rxValid)).map (·.rxByte) =
        frames.map (·.1) := by
  induction frames generalizing s with
  | nil => exact ⟨rfl, rfl⟩
  | cons frame rest ih =>
    obtain ⟨hframe, hrest⟩ := List.forall_mem_cons.mp hframes
    obtain ⟨hsync, hvalid, hready⟩ := h.wholeFrame hframe
    obtain ⟨ihsync, ihvalid⟩ := ih hready hrest
    rw [List.flatMap_cons, loopbackTrace_append, List.filter_append, List.filter_append, List.length_append,
      List.map_append, hsync, hvalid, ihsync, ihvalid, List.length_cons, Nat.add_comm]
    exact ⟨rfl, rfl⟩

/-- One symbol behind a reset neither matches nor ends in `101100`, whatever it is (R243). -/
theorem shift8_zero_safe (symbol : Symbol) :
    shift8 0x00#8 symbol ≠ Config.preamble ∧ (shift8 0x00#8 symbol).extractLsb' 0 6 ≠ 0b101100#6 := by
  cases symbol <;> decide

/-- Settles O53: each whole frame leaves the loopback ready for the next, and reset leaves a ready scanner. -/
theorem loopbackFramesOneAfterAnother : Obligations.LoopbackFramesOneAfterAnother := by
  refine ⟨fun s low high frames _ hpaths hchannel hidle hmode hmatch hsafe hframes => ?_, fun b low => ?_⟩
  · have hready : ReadyLoopback low high s := ⟨hpaths, hchannel, hidle, hmode, hmatch, hsafe⟩
    exact ⟨length_loopbackTrace .., hready.wholeFrames hframes⟩
  · exact ⟨rfl, rfl, shift8_zero_safe _⟩

end Sys2Proof.Machine
end

section
/-! The Demodulator (spec/40_demodulator.md): its two comparisons, what it makes of a line, the write-back of a receiver
tick, and the receiver's cycle without one. -/

namespace Sys2Proof.Machine

/-! ## The two comparisons -/

/-- R100 in the unsigned form of R104. -/
theorem demod_high_eq_decide (T p x : Nat) : demod T HIGH p x = decide (p < x + T) :=
  Bool.eq_iff_iff.mpr ((decideFromHigh_iff T p x).trans decide_eq_true_iff.symm)

/-- R101 in the unsigned form of R104. -/
theorem demod_low_eq_decide (T p x : Nat) : demod T LOW p x = decide (p + T ≤ x) :=
  Bool.eq_iff_iff.mpr ((decideFromLow_iff T p x).trans decide_eq_true_iff.symm)

/-- The rows of R79, read from the selector's value. -/
theorem decodeDmsel_eq (w : BitVec 1) (x : Nat) :
    decodeDmsel w x = if w = 1#1 then .demodFromHigh x else .demodFromLow x := by
  rcases BitVec.eq_zero_or_eq_one w with rfl | rfl <;> rfl

/-- Settles O15: the rows of R79, and the decision's own definition on integers. -/
theorem demodFromHighComparesStrictly : Obligations.DemodFromHighComparesStrictly := by
  refine ⟨fun w x => ?_, fun T p x => decide_eq_true_iff, fun s x => rfl⟩
  rw [decodeDmsel_eq]
  split
  next hw => exact iff_of_true rfl hw
  next hw => exact iff_of_false nofun hw

/-- Settles O16, as O15 from the other row of R79. -/
theorem demodFromLowComparesInclusively : Obligations.DemodFromLowComparesInclusively := by
  refine ⟨fun w x => ?_, fun T p x => decide_eq_true_iff, fun s x => rfl⟩
  rcases BitVec.eq_zero_or_eq_one w with rfl | rfl
  · exact iff_of_true rfl rfl
  · exact iff_of_false nofun (by decide)

/-- Settles O38: the ranges are arithmetic on the three bounds, the unsigned forms hold without any. -/
theorem comparisonsDoNotWrap : Obligations.ComparisonsDoNotWrap := by
  intro n T p x hT hp hx
  have hT' : (T : Int) < 2 ^ n := by exact_mod_cast hT
  have hp' : (p : Int) < 2 ^ n := by exact_mod_cast hp
  rw [pow_succ, pow_succ]
  exact ⟨by omega, by omega, by omega, by omega, demod_high_eq_decide T p x, demod_low_eq_decide T p x⟩

/-! ## A two-level line -/

/-- From LOW a sample less than `THRESHOLD` above the one before stays LOW (R107). -/
theorem demod_low_of_lt {T p x : Nat} (h : x < p + T) : demod T LOW p x = LOW := by
  rw [demod_low_eq_decide]
  exact decide_eq_false (Nat.not_le.mpr h)

/-- From HIGH a sample less than `THRESHOLD` below the one before stays HIGH (R107). -/
theorem demod_high_of_lt {T p x : Nat} (h : p < x + T) : demod T HIGH p x = HIGH :=
  (decideFromHigh_iff T p x).mpr h

/-- A constant level holds the symbol, whatever it is (R107). -/
theorem demod_self {T : Nat} (hT : 1 ≤ T) (sym : Symbol) (p : Nat) : demod T sym p p = sym := by
  cases sym with
  | false => exact demod_low_of_lt (by omega)
  | true => exact demod_high_of_lt (by omega)

/-- A fall of the line by `THRESHOLD` or more reads LOW whatever was read before (R107). -/
theorem demod_fall {T low high : Nat} (hT : 1 ≤ T) (h : low + T ≤ high) (sym : Symbol) :
    demod T sym high low = LOW := by
  cases sym with
  | false => exact demod_low_of_lt (by omega)
  | true =>
    rw [demod_high_eq_decide]
    exact decide_eq_false (by omega)

/-- A change of the line's level reads as the new level, whatever was read before (R107). -/
theorem demod_idealSample_of_ne {T low high : Nat} (hT : 1 ≤ T) (h : low + T ≤ high) (sym : Symbol)
    {old new : Level} (hne : old ≠ new) :
    demod T sym (idealSample low high old) (idealSample low high new) = new := by
  cases old with
  | false =>
    obtain rfl : new = true := Bool.eq_true_of_not_eq_false hne.symm
    exact demod_rise hT h sym
  | true =>
    obtain rfl : new = false := Bool.eq_false_of_not_eq_true hne.symm
    exact demod_fall hT h sym

/-- Once the symbol is the line's level, the symbols are the levels, at every tick (R107). -/
theorem symbolsOf_idealSample {T low high : Nat} (hT : 1 ≤ T) (h : low + T ≤ high) (level : Level)
    (levels : List Level) :
    symbolsOf T level (idealSample low high level) (levels.map (idealSample low high)) = levels := by
  induction levels generalizing level with
  | nil => rfl
  | cons next rest ih => rw [List.map_cons, symbolsOf, demod_idealSample hT h, ih]

/-- From the first change of level on, the symbol is the level, by induction on the line: before the change the symbol
holds, at the change it becomes the level, and then it follows (R107). -/
theorem symbolsOf_getElem?_of_change {T low high : Nat} (hT : 1 ≤ T) (h : low + T ≤ high) (sym : Symbol)
    (level : Level) (levels : List Level) (k : Nat) (hchange : ∃ j ≤ k, (level :: levels)[j]? ≠ levels[j]?) :
    (symbolsOf T sym (idealSample low high level) (levels.map (idealSample low high)))[k]? = levels[k]? := by
  induction levels generalizing level k with
  | nil => rfl
  | cons next rest ih =>
    rw [List.map_cons, symbolsOf]
    by_cases hnext : level = next
    · subst hnext
      rw [demod_self hT]
      obtain ⟨j, hjk, hj⟩ := hchange
      cases j with
      | zero => exact absurd rfl hj
      | succ j =>
        obtain ⟨k, rfl⟩ := Nat.exists_eq_add_one_of_ne_zero (show k ≠ 0 by omega)
        exact ih level k ⟨j, Nat.le_of_succ_le_succ hjk, hj⟩
    · rw [demod_idealSample_of_ne hT h sym hnext, symbolsOf_idealSample hT h]

/-- On a constant line at the sample before it the symbol never changes (R107). -/
theorem symbolsOf_replicate {T : Nat} (hT : 1 ≤ T) (sym : Symbol) (p n : Nat) :
    symbolsOf T sym p (List.replicate n p) = List.replicate n sym := by
  induction n with
  | zero => rfl
  | succ n ih => rw [List.replicate_succ, symbolsOf, demod_self hT, ih, List.replicate_succ]

/-- From reset, a line idling at `THRESHOLD` or above reads HIGH: the first sample is a rise from 0 (R107). -/
theorem symbolsOf_reset_idle {T low : Nat} (hT : 1 ≤ T) (h : T ≤ low) (n : Nat) :
    symbolsOf T LOW 0 (List.replicate n low) = List.replicate n HIGH := by
  cases n with
  | zero => rfl
  | succ n =>
    rw [List.replicate_succ, symbolsOf, demod_rise hT (by omega), symbolsOf_replicate hT, List.replicate_succ]

/-- Settles O40: each clause is a fact above about one decision or about a line. -/
theorem twoLevelLineIsFollowed : Obligations.TwoLevelLineIsFollowed := by
  intro T low high hT h
  refine ⟨demod_self hT, demod_rise hT h, demod_fall hT h, fun sym level levels k v hv hchange => ?_,
    fun n hlow => symbolsOf_reset_idle hT hlow n, fun _ _ => demod_low_of_lt, fun _ _ => demod_high_of_lt⟩
  rw [symbolsOf_getElem?_of_change hT h sym level levels k hchange, hv]

/-! ## The write-back of a receiver tick, and the cycle without one -/

/-- The operations that RXSEL selects leave the record of the decision as they find it. -/
theorem perform_decodeRxsel_decided (s : State) (sel : BitVec 4) (x : Nat) :
    (s.perform (decodeRxsel sel x)).decided = s.decided := by
  unfold decodeRxsel
  split
  case h_3 => rw [perform_rxScanTick]; split <;> rfl
  all_goals rfl

/-- A cycle of a core that holds the receiver shows the decision of its receiver tick, and none without one (R103). -/
theorem decided_of_step {s t : State} (hrx : s.build.paths.includeRx = true) (h : step s = .next t) :
    t.decided = if s.decides then some (s.symbolOf s.sampleIn) else none := by
  rw [step_eq_next_paths, foldl_perform_rxOperations, if_pos hrx, perform_dmOperation] at h
  cases h
  change (State.perform _ (decodeRxsel s.rxsel s.sampleIn)).decided = _
  rw [perform_decodeRxsel_decided]
  split <;> rfl

/-- Settles O25: the receiver's row writes back whichever it is, and the record holds a decision exactly if the cycle
makes one. -/
theorem everyReceiverTickWritesBack : Obligations.EveryReceiverTickWritesBack := by
  intro s t hrx h
  have hdecided := decided_of_step hrx h
  rw [← decides_iff]
  constructor
  · intro hdecides
    obtain ⟨htick, hrst⟩ := (decides_iff s).mp hdecides
    obtain ⟨u, hu, hsample, hsymbol, -⟩ := receiverCycle_of_step h hrx
    obtain ⟨husample, husymbol⟩ := hu.writes_back hrst htick
    have hwritten : t.prevSymbol = s.symbolOf s.sampleIn := hsymbol.trans husymbol
    rw [hwritten, hdecided, if_pos hdecides]
    exact ⟨hsample.trans husample, rfl, rfl⟩
  · intro hdecides
    rw [hdecided, if_neg hdecides]

/-- The row of R77 that RX_WAIT is: neither a reset nor a receiver tick. -/
theorem decodeRxsel_eq_rxWait_iff (w : BitVec 4) (x : Nat) :
    decodeRxsel w x = .rxWait ↔ w.getLsbD 3 = false ∧ w.getLsbD 2 = false := by
  unfold decodeRxsel
  cases w.getLsbD 3 with
  | true => simp
  | false =>
    cases w.getLsbD 2 with
    | false => simp
    | true =>
      cases w.getLsbD 1 with
      | false => simp
      | true => cases w.getLsbD 0 <;> simp

/-- Settles O3: with both strobes down, RX_WAIT writes the values that stand there. -/
theorem rxWaitOnlyClearsStrobes : Obligations.RxWaitOnlyClearsStrobes :=
  ⟨decodeRxsel_eq_rxWait_iff, fun s => ⟨s.setStrobes false false, rfl, rfl, rfl⟩⟩

end Sys2Proof.Machine
end

section
/-! The Preamble Scanner (spec/41_preamble_scanner.md): its tick, the life of `scan_acc` over a cycle and over a run,
and where a preamble matches. -/

namespace Sys2Proof.Machine

/-! ## The scanning tick -/

/-- The row of R77 that RX_SCAN_TICK is: a receiver tick without a reset, with the scanner in control. -/
theorem decodeRxsel_eq_rxScanTick_iff (w : BitVec 4) (x : Nat) :
    decodeRxsel w x = .rxScanTick x ↔ w.getLsbD 3 = false ∧ w.getLsbD 2 = true ∧ w.getLsbD 1 = false := by
  unfold decodeRxsel
  split
  case h_1 h3 => rw [h3]; simp
  case h_2 h2 => rw [h2]; simp
  case h_3 h3 h2 h1 => exact iff_of_true rfl ⟨h3, h2, h1⟩
  case h_4 h1 _ | h_5 h1 _ => rw [h1]; simp

/-- Settles O4: the two outcomes of the comparison are the two branches of the tick. -/
theorem rxScanTickShiftsAndCompares : Obligations.RxScanTickShiftsAndCompares := by
  refine ⟨decodeRxsel_eq_rxScanTick_iff, ?_⟩
  rintro s x _ _ rfl rfl
  rw [exec_eq_next, perform_rxScanTick]
  exact ⟨fun hmatch => congrArg _ (if_pos hmatch), fun hmiss => congrArg _ (if_neg hmiss)⟩

/-! ## `scan_acc` over a cycle -/

/-- The scanning tick's two rows shift the decided symbol in, the reset clears, and no other row writes `scan_acc`
(R122, R124). -/
theorem ReceiverCycle.scanAcc_eq {s u : State} (h : ReceiverCycle s u) :
    u.scanAcc = if s.inputs.rst then 0x00#8
      else if s.inputs.rxTick = true ∧ s.rxMode = .scan then shift8 s.scanAcc (s.symbolOf s.sampleIn)
      else s.scanAcc := by
  cases h with
  | reset hrst => simp [hrst]
  | wait hrst htick => simp [hrst, htick]
  | scanMatch hrst htick hmode | scanMiss hrst htick hmode => simp [hrst, htick, hmode]
  | frameTick hrst _ hmode | frameLast hrst _ hmode => simp [hrst, hmode]

/-- Settles O28: a cycle leaves in `scan_acc` what its row of the receiver's selector leaves there. -/
theorem scanAccFreeRuns : Obligations.ScanAccFreeRuns := by
  intro s t hrx h
  obtain ⟨u, hu, -, -, hscanAcc, -⟩ := receiverCycle_of_step h hrx
  exact hscanAcc.trans hu.scanAcc_eq

/-! ## `scan_acc` over a run -/

/-- The symbols that the current cycle scans, one or none; `scannedSymbols_cons` ties it to `scannedSymbols`. -/
def State.scannedNow (s : State) : List Symbol :=
  if s.build.paths.includeRx && s.decides && s.rxMode == .scan then [s.symbolOf s.sampleIn] else []

theorem scannedSymbols_cons (i : Inputs) (rest : List Inputs) (s : State) :
    scannedSymbols (i :: rest) s = (s.drive i).scannedNow ++ scannedSymbols rest (s.drive i).afterCycle := by
  simp only [scannedSymbols, step_eq_next_afterCycle]
  rfl

/-- A cycle without a reset shifts into `scan_acc` the symbols it scans (R122). -/
theorem scanAcc_afterCycle {s : State} (hrx : s.build.paths.includeRx = true) (hrst : s.inputs.rst = false) :
    s.afterCycle.scanAcc = s.scannedNow.foldl shift8 s.scanAcc := by
  rw [scanAccFreeRuns s _ hrx (step_eq_next_afterCycle s), State.scannedNow, State.decides, hrx, hrst]
  by_cases hscan : s.inputs.rxTick = true ∧ s.rxMode = .scan
  · simp [hscan]
  · simp [hscan]

/-- Settles O41, by induction on the cycles: what one cycle scans stands before what the others scan. -/
theorem scanAccHoldsTheLastScannedSymbols : Obligations.ScanAccHoldsTheLastScannedSymbols := by
  intro ins s hrx hrst
  induction ins generalizing s with
  | nil => exact ⟨s, rfl, rfl⟩
  | cons i rest ih =>
    obtain ⟨hi, hrest⟩ : i.rst = false ∧ noReset rest = true := by simpa [noReset] using hrst
    have hshift := scanAcc_afterCycle (s := s.drive i) hrx hi
    obtain ⟨t, hrun, hacc⟩ := ih (s.drive i).afterCycle ((afterCycle_build _).symm ▸ hrx) hrest
    refine ⟨t, (runInputs_cons i rest s).trans hrun, ?_⟩
    rw [hacc, hshift, scannedSymbols_cons, List.foldl_append]
    rfl

/-! ## Where a preamble matches -/

/-- The symbols of a preamble in the order they are scanned (R71). -/
def preambleSymbols : List Symbol := (List.range 8).map fun k => Config.preamble.getLsbD (7 - k)

theorem preambleSymbols_eq : preambleSymbols = [true, false, true, true, false, false, true, false] := rfl

/-- The first `j` symbols of a preamble, shifted in one after another. -/
theorem foldl_take_preambleSymbols (acc : Byte) {j : Nat} (hj : j ≤ 8) :
    (preambleSymbols.take j).foldl shift8 acc = preambleShift acc j := by
  induction j with
  | zero => rfl
  | succ j ih =>
    have hsymbol : preambleSymbols[j]? = some (Config.preamble.getLsbD (7 - j)) := by
      rw [preambleSymbols, List.getElem?_map, List.getElem?_range hj]
      rfl
    rw [List.take_add_one, hsymbol, List.foldl_append, ih (by omega)]
    rfl

/-- Behind `101100` a preamble matches at its second symbol, and at no other before its eighth (R126). -/
theorem preambleShift_eq_preamble_iff :
    ∀ acc : Byte, acc.extractLsb' 0 6 = 0b101100#6 → ∀ j < 7, preambleShift acc (j + 1) = Config.preamble ↔ j = 1 := by
  decide

/-- Whether a preamble matches before its eighth symbol depends on the six symbols scanned before it (R126). -/
theorem foldl_take_preambleSymbols_eq_iff (acc : Byte) (k : Fin 8) (hk : 1 ≤ k.val) :
    (preambleSymbols.take k.val).foldl shift8 acc = Config.preamble ↔
      k.val = 2 ∧ acc.extractLsb' 0 6 = 0b101100#6 := by
  obtain ⟨j, hj⟩ := Nat.exists_eq_add_of_le' hk
  have hlt : j < 7 := by omega
  rw [hj, foldl_take_preambleSymbols acc (by omega)]
  by_cases hacc : acc.extractLsb' 0 6 = 0b101100#6
  · simp [preambleShift_eq_preamble_iff acc hacc j hlt, hacc]
  · simp [preambleShift_ne_preamble acc hacc j hlt, hacc]

/-- LOW symbols shift zeros in (R127). -/
theorem foldl_shift8_replicate_low (n : Nat) (acc : Byte) :
    (List.replicate n LOW).foldl shift8 acc = acc <<< n := by
  induction n generalizing acc with
  | zero => simp
  | succ n ih => rw [List.replicate_succ, List.foldl_cons, ih, shift8_low, Nat.add_comm n 1, BitVec.shiftLeft_add]

/-- After a match, LOW symbols never match again (R127). -/
theorem foldl_shift8_replicate_low_ne_preamble {n : Nat} (hn : 1 ≤ n) :
    (List.replicate n LOW).foldl shift8 Config.preamble ≠ Config.preamble := by
  obtain ⟨n, rfl⟩ := Nat.exists_eq_add_of_le' hn
  rw [foldl_shift8_replicate_low]
  exact (preamble_shiftLeft_safe n).1

/-- Settles O43: a preamble's own symbols match early behind `101100` alone, and zeros shifted in never complete one;
the progressions of R126 and R127 are the model's own values. -/
theorem preambleMatchesEarlyInOneCaseOnly : Obligations.PreambleMatchesEarlyInOneCaseOnly := by
  rw [Obligations.PreambleMatchesEarlyInOneCaseOnly, ← preambleSymbols_eq]
  exact ⟨fun acc => (foldl_take_preambleSymbols acc (Nat.le_refl 8)).trans (preambleShift_eight acc),
    foldl_take_preambleSymbols_eq_iff, by decide, by decide, by decide, by decide, by decide, by decide,
    fun _ => foldl_shift8_replicate_low_ne_preamble⟩

end Sys2Proof.Machine
end

section
/-! The Byte Framer (spec/42_byte_framer.md): its two ticks, what ends a frame, and the byte that eight receiver ticks
assemble. -/

namespace Sys2Proof.Machine

/-! ## The framing ticks -/

/-- The two rows of R77 that frame: a receiver tick without a reset, in a frame, for its last symbol or an earlier
one. -/
theorem decodeRxsel_eq_framing_iff (w : BitVec 4) (x : Nat) (last : Bool) :
    decodeRxsel w x = (if last then .rxFrameLast x else .rxFrameTick x) ↔ w = rxselWord false true .frame last := by
  have hbits : w = rxselWord false true .frame last ↔
      w.getLsbD 3 = false ∧ w.getLsbD 2 = true ∧ w.getLsbD 1 = true ∧ w.getLsbD 0 = last := by
    revert w last
    decide
  rw [hbits]
  unfold decodeRxsel
  split
  case h_1 h3 => rw [h3]; cases last <;> simp
  case h_2 h2 => rw [h2]; cases last <;> simp
  case h_3 h1 => rw [h1]; cases last <;> simp
  case h_4 h3 h2 h1 h0 | h_5 h3 h2 h1 h0 => rw [h3, h2, h1, h0]; cases last <;> simp

/-- The operation of a receiver tick without a reset: the mode and the count select it (R77). -/
theorem rxOperation_drive_of_tick {s : State} {i : Inputs} (hrst : i.rst = false) (htick : i.rxTick = true) :
    (s.drive i).rxOperation =
      if s.rxMode = .scan then .rxScanTick (s.drive i).sampleIn
      else if s.rxLast then .rxFrameLast (s.drive i).sampleIn
      else .rxFrameTick (s.drive i).sampleIn := by
  rw [State.rxOperation, State.rxsel, decodeRxsel_rxselWord, drive_inputs, hrst, htick]
  rfl

/-- Below 7 the count of payload symbols goes up by one without wrapping (R26, R140). -/
theorem payCount_add_one_toNat {count : BitVec 3} (h : count.toNat < 7) : (count + 1#3).toNat = count.toNat + 1 := by
  bv_omega

/-- A scanning tick that leaves `rx_sync` = 1 has handed over to the Byte Framer at payload symbol 0 (R120, R121). -/
theorem rxScanTick_starts_frame {s : State} {x : Nat} (hsync : (s.perform (.rxScanTick x)).rxSync = true) :
    (s.perform (.rxScanTick x)).rxMode = .frame ∧ (s.perform (.rxScanTick x)).payCount = 0#3 := by
  rw [perform_rxScanTick] at hsync ⊢
  split_ifs at hsync ⊢
  · exact ⟨rfl, rfl⟩
  · cases hsync

/-- Settles O5: the count has room for one more, and a match leaves it at 0, where the last symbol's row is not
selected. -/
theorem rxFrameTickPushesOneSymbol : Obligations.RxFrameTickPushesOneSymbol := by
  refine ⟨fun w x => decodeRxsel_eq_framing_iff w x false, ?_, fun s t x i ht hsync hrst htick => ?_⟩
  · rintro s x _ rfl hcount
    exact ⟨_, exec_eq_next _ s, rfl, payCount_add_one_toNat (Nat.lt_succ_of_le hcount)⟩
  · rw [exec_eq_next] at ht
    cases ht
    obtain ⟨hmode, hcount⟩ := rxScanTick_starts_frame hsync
    rw [rxOperation_drive_of_tick hrst htick, State.rxLast, hmode, hcount]
    rfl

/-- Settles O6: the row's next state has the scanner in control, so a tick there is a scanning one. -/
theorem rxFrameLastDeliversTheByte : Obligations.RxFrameLastDeliversTheByte := by
  refine ⟨fun w x => decodeRxsel_eq_framing_iff w x true, ?_⟩
  rintro s x _ _ rfl rfl
  exact ⟨_, exec_eq_next _ s, rfl, fun i hrst htick => rxOperation_drive_of_tick hrst htick⟩

/-! ## What ends a frame -/

/-- Of the receiver's rows in a frame, the reset and the last symbol's return to scanning (R141, R144, R234). -/
theorem ReceiverCycle.rxMode_eq_scan_iff {s u : State} (h : ReceiverCycle s u) (hmode : s.rxMode = .frame) :
    u.rxMode = .scan ↔ s.inputs.rst = true ∨ (s.inputs.rxTick = true ∧ s.payCount = 7#3) := by
  cases h with
  | reset hrst => simp [hrst]
  | wait hrst htick => simp [hrst, htick, hmode]
  | scanMatch _ _ hscan | scanMiss _ _ hscan => simp [hmode] at hscan
  | frameTick hrst _ _ hcount => simp [hrst, hcount, hmode]
  | frameLast _ htick _ hcount => simp [htick, hcount]

/-- Settles O29: the receiver's row decides whether the frame ends, and the row without a tick writes the strobes
alone. -/
theorem frameEndsOnlyAtEighthTickOrReset : Obligations.FrameEndsOnlyAtEighthTickOrReset := by
  intro s t hrx hmode h
  rw [step_eq_next_afterCycle] at h
  cases h
  have hrow := receiverCycle_perform s
  obtain ⟨-, -, -, hnext, -⟩ := sameReceiver_afterCycle hrx hrow
  refine ⟨by rw [hnext]; exact hrow.rxMode_eq_scan_iff hmode, fun hrst htick => ?_⟩
  obtain ⟨-, -, hscanAcc, -, hpayAcc, hpayCount, hrxByte, -, -⟩ := sameReceiver_afterCycle hrx (.wait hrst htick)
  exact ⟨hpayCount, hpayAcc, hscanAcc, hrxByte⟩

/-! ## The symbols shifted into a byte -/

theorem length_symbolsOf (T : Nat) (sym : Symbol) (p : Nat) (xs : List Nat) :
    (symbolsOf T sym p xs).length = xs.length := by
  induction xs generalizing sym p with
  | nil => rfl
  | cons x rest ih => rw [symbolsOf, List.length_cons, ih, List.length_cons]

/-- Bit `k` of a byte is the symbol shifted in `k` symbols before the latest, whatever the byte held before them
(R140). -/
theorem foldl_shift8_getLsbD (acc : Byte) (syms : List Symbol) {k : Nat} (hk : k < 8) (hlen : k < syms.length) :
    syms.reverse[k]? = some ((syms.foldl shift8 acc).getLsbD k) := by
  induction syms using List.reverseRecOn generalizing k with
  | nil => cases hlen
  | append_singleton init sym ih =>
    rw [List.reverse_append, List.foldl_append, List.foldl_cons, List.foldl_nil]
    cases k with
    | zero => rw [shift8_getLsbD_zero]; rfl
    | succ k =>
      rw [shift8_getLsbD_succ _ _ _ hk, ← ih (by omega) (by simpa using hlen)]
      rfl

/-- What `pay_acc` would hold after receiver ticks in a frame that read the samples `xs` (R140). -/
def State.assembled (s : State) (xs : List Nat) : Byte :=
  (symbolsOf s.build.threshold s.prevSymbol s.prevSample xs).foldl shift8 s.payAcc

/-- One sample more has its symbol decided and shifted in, as the framing ticks do it (R102, R140). -/
theorem assembled_cons (s : State) (x : Nat) (xs : List Nat) :
    s.assembled (x :: xs) = ((s.demodTick x).pushPayload (shift8 s.payAcc (s.symbolOf x))).assembled xs := rfl

theorem assembled_congr {s t : State} (h : t.sameReceiver s) (hb : t.build = s.build) (xs : List Nat) :
    t.assembled xs = s.assembled xs := by
  obtain ⟨hsample, hsymbol, -, -, hpayAcc, -⟩ := h
  rw [State.assembled, State.assembled, hb, hsample, hsymbol, hpayAcc]

/-- Of eight samples, the byte's bit 8 - k is the symbol of the k-th (R142, R145). -/
theorem symbolsOf_getElem?_eq_assembled (s : State) {xs : List Nat} (hlen : xs.length = 8) {k : Nat} (h1 : 1 ≤ k)
    (h8 : k ≤ 8) :
    (symbolsOf s.build.threshold s.prevSymbol s.prevSample xs)[k - 1]? =
      some ((s.assembled xs).getLsbD (8 - k)) := by
  have hsyms := (length_symbolsOf s.build.threshold s.prevSymbol s.prevSample xs).trans hlen
  rw [State.assembled, ← foldl_shift8_getLsbD _ _ (by omega) (by omega), List.getElem?_reverse (by omega), hsyms]
  congr 1
  omega

/-! ## A frame in progress -/

theorem runInputs_append_of_next {init rest : List Inputs} {s t : State} (h : runInputs init s = .next t) :
    runInputs (init ++ rest) s = runInputs rest t := by
  induction init generalizing s with
  | nil => cases h; rfl
  | cons i init ih =>
    rw [runInputs_cons] at h
    rw [List.cons_append, runInputs_cons, ih h]

theorem tickSamples_append (n : Nat) (xs ys : List Inputs) :
    tickSamples n (xs ++ ys) = tickSamples n xs ++ tickSamples n ys := by
  rw [tickSamples, List.filter_append, List.map_append]
  rfl

theorem tickSamples_singleton_of_tick (n : Nat) {i : Inputs} (h : i.rxTick = true) :
    tickSamples n [i] = [i.sampleIn % 2 ^ n] := by
  simp [tickSamples, h]

theorem tickSamples_singleton_of_wait (n : Nat) {i : Inputs} (h : i.rxTick = false) : tickSamples n [i] = [] := by
  simp [tickSamples, h]

/-- `t` is in the frame of `s`, the samples `xs` later: it counts them, will assemble what `s` would with them in front,
and has delivered nothing (R140, R142, R124). -/
structure FramingSince (s : State) (xs : List Nat) (t : State) : Prop where
  build : t.build = s.build
  mode : t.rxMode = .frame
  count : t.payCount.toNat = s.payCount.toNat + xs.length
  assembles : ∀ ys, t.assembled ys = s.assembled (xs ++ ys)
  byte : t.rxByte = s.rxByte
  scanAcc : t.scanAcc = s.scanAcc

theorem FramingSince.refl {s : State} (hmode : s.rxMode = .frame) : FramingSince s [] s :=
  ⟨rfl, hmode, rfl, fun _ => rfl, rfl, rfl⟩

/-- A cycle without a tick keeps a frame where it is and leaves both strobes 0 (R106, R144). -/
theorem FramingSince.wait {s t : State} {xs : List Nat} (h : FramingSince s xs t)
    (hrx : t.build.paths.includeRx = true) {i : Inputs} (hrst : i.rst = false) (htick : i.rxTick = false) :
    FramingSince s xs (t.drive i).afterCycle ∧
      (t.drive i).afterCycle.rxValid = false ∧ (t.drive i).afterCycle.rxSync = false := by
  have hb : (t.drive i).afterCycle.build = t.build := afterCycle_build _
  have hsame := sameReceiver_afterCycle (s := t.drive i) hrx (.wait hrst htick)
  have hassembled := assembled_congr hsame hb
  obtain ⟨-, -, hscanAcc, hmode, -, hcount, hbyte, hsync, hvalid⟩ := hsame
  exact ⟨⟨hb.trans h.build, hmode.trans h.mode, hcount ▸ h.count, fun ys => (hassembled ys).trans (h.assembles ys),
    hbyte.trans h.byte, hscanAcc.trans h.scanAcc⟩, hvalid, hsync⟩

/-- A tick before the one of the last symbol takes a frame one sample on and leaves both strobes 0 (R140). -/
theorem FramingSince.tick {s t : State} {xs : List Nat} (h : FramingSince s xs t)
    (hrx : t.build.paths.includeRx = true) {i : Inputs} (hrst : i.rst = false) (htick : i.rxTick = true)
    (hroom : s.payCount.toNat + xs.length < 7) :
    FramingSince s (xs ++ [i.sampleIn % 2 ^ s.build.sampleBits]) (t.drive i).afterCycle ∧
      (t.drive i).afterCycle.rxValid = false ∧ (t.drive i).afterCycle.rxSync = false := by
  have hb : (t.drive i).afterCycle.build = t.build := afterCycle_build _
  have hbelow : t.payCount.toNat < 7 := h.count.trans_lt hroom
  have hsame := sameReceiver_afterCycle (s := t.drive i) hrx
    (.frameTick hrst htick h.mode (by rw [drive_payCount]; bv_omega))
  have hassembled := assembled_congr hsame hb
  obtain ⟨-, -, hscanAcc, hmode, -, hcount, hbyte, hsync, hvalid⟩ := hsame
  refine ⟨⟨hb.trans h.build, hmode.trans h.mode, ?_, fun ys => ?_, hbyte.trans h.byte, hscanAcc.trans h.scanAcc⟩,
    hvalid, hsync⟩
  · rw [hcount, List.length_append, List.length_singleton, ← Nat.add_assoc, ← h.count]
    exact payCount_add_one_toNat hbelow
  · rw [hassembled, List.append_assoc, ← h.assembles, ← h.build]
    exact (assembled_cons t _ ys).symm

/-- A cycle without a reset keeps a frame in progress, unless it is the tick of the frame's last symbol (R144). -/
theorem FramingSince.afterCycle {s t : State} {xs : List Nat} (h : FramingSince s xs t)
    (hrx : t.build.paths.includeRx = true) {i : Inputs} (hrst : i.rst = false)
    (hroom : s.payCount.toNat + (xs ++ tickSamples s.build.sampleBits [i]).length < 8) :
    FramingSince s (xs ++ tickSamples s.build.sampleBits [i]) (t.drive i).afterCycle ∧
      (t.drive i).afterCycle.rxValid = false ∧ (t.drive i).afterCycle.rxSync = false := by
  cases htick : i.rxTick with
  | false =>
    rw [tickSamples_singleton_of_wait _ htick, List.append_nil]
    exact h.wait hrx hrst htick
  | true =>
    rw [tickSamples_singleton_of_tick _ htick] at hroom ⊢
    rw [List.length_append, List.length_singleton] at hroom
    exact h.tick hrx hrst htick (by omega)

/-- The tick of a frame's last symbol delivers what the frame has assembled and returns to scanning (R141, R142). -/
theorem FramingSince.delivers {s t : State} {xs : List Nat} (h : FramingSince s xs t)
    (hrx : t.build.paths.includeRx = true) {i : Inputs} (hrst : i.rst = false) (htick : i.rxTick = true)
    (hfull : s.payCount.toNat + xs.length = 7) :
    (t.drive i).afterCycle.rxMode = .scan ∧ (t.drive i).afterCycle.payCount = 0#3 ∧
      (t.drive i).afterCycle.rxValid = true ∧ (t.drive i).afterCycle.rxSync = false ∧
      (t.drive i).afterCycle.scanAcc = s.scanAcc ∧
      (t.drive i).afterCycle.rxByte = s.assembled (xs ++ [i.sampleIn % 2 ^ s.build.sampleBits]) := by
  have hlast : t.payCount = 7#3 := BitVec.eq_of_toNat_eq (h.count.trans hfull)
  obtain ⟨-, -, hscanAcc, hmode, -, hcount, hbyte, hsync, hvalid⟩ :=
    sameReceiver_afterCycle (s := t.drive i) hrx (.frameLast hrst htick h.mode hlast)
  refine ⟨hmode, hcount, hvalid, hsync, hscanAcc.trans h.scanAcc, ?_⟩
  rw [hbyte, ← h.assembles, ← h.build]
  exact (assembled_cons t _ []).symm

/-- Cycles without a reset and with too few ticks to end it keep a frame in progress, by induction on the cycles, the
latest one last. -/
theorem framingSince_runInputs {ins : List Inputs} {s : State} (hrx : s.build.paths.includeRx = true)
    (hrst : ∀ i ∈ ins, i.rst = false) (hmode : s.rxMode = .frame)
    (hroom : s.payCount.toNat + (tickSamples s.build.sampleBits ins).length < 8) :
    ∃ t : State, runInputs ins s = .next t ∧ FramingSince s (tickSamples s.build.sampleBits ins) t ∧
      (ins ≠ [] → t.rxValid = false ∧ t.rxSync = false) := by
  induction ins using List.reverseRecOn with
  | nil => exact ⟨s, rfl, .refl hmode, fun h => absurd rfl h⟩
  | append_singleton init i ih =>
    obtain ⟨hinit, hi⟩ := List.forall_mem_append.mp hrst
    rw [tickSamples_append] at hroom ⊢
    obtain ⟨u, hrun, hu, -⟩ := ih hinit (by rw [List.length_append] at hroom; omega)
    obtain ⟨ht, hstrobes⟩ := hu.afterCycle (hu.build ▸ hrx) (hi i (List.mem_singleton_self i)) hroom
    exact ⟨_, by rw [runInputs_append_of_next hrun, runInputs_cons, runInputs_nil], ht, fun _ => hstrobes⟩

/-- Cycles without a reset that end in the tick of a frame's last symbol deliver the byte the frame has assembled. -/
theorem runInputs_delivers {init : List Inputs} {i : Inputs} {s : State} (hrx : s.build.paths.includeRx = true)
    (hinit : ∀ j ∈ init, j.rst = false) (hi : i.rst = false) (hmode : s.rxMode = .frame) (htick : i.rxTick = true)
    (hfull : s.payCount.toNat + (tickSamples s.build.sampleBits (init ++ [i])).length = 8) :
    ∃ t : State, runInputs (init ++ [i]) s = .next t ∧ t.rxMode = .scan ∧ t.payCount = 0#3 ∧ t.rxValid = true ∧
      t.rxSync = false ∧ t.scanAcc = s.scanAcc ∧
      t.rxByte = s.assembled (tickSamples s.build.sampleBits (init ++ [i])) := by
  rw [tickSamples_append] at hfull ⊢
  rw [tickSamples_singleton_of_tick _ htick] at hfull ⊢
  rw [List.length_append, List.length_singleton] at hfull
  obtain ⟨u, hrun, hu, -⟩ := framingSince_runInputs hrx hinit hmode (by omega)
  refine ⟨_, ?_, hu.delivers (hu.build ▸ hrx) hi htick (by omega)⟩
  rw [runInputs_append_of_next hrun, runInputs_cons, runInputs_nil]

theorem noReset_iff (ins : List Inputs) : noReset ins = true ↔ ∀ i ∈ ins, i.rst = false := by
  simp [noReset]

/-- Settles O42: a frame stays in progress up to its 8th tick, which delivers the eight symbols shifted into one
another. -/
theorem framerAssemblesTheByte : Obligations.FramerAssemblesTheByte := by
  rintro ins s _ _ hrx hrst hmode hcount rfl rfl
  have hzero : s.payCount.toNat = 0 := by rw [hcount]; rfl
  rw [noReset_iff] at hrst
  constructor
  · intro hfew
    obtain ⟨t, hrun, ht, hstrobes⟩ := framingSince_runInputs hrx hrst hmode (by omega)
    exact ⟨t, hrun, ht.mode, by rw [ht.count, hzero, Nat.zero_add], ht.byte, ht.scanAcc, hstrobes⟩
  · intro height hlast
    obtain ⟨i, hi, htick⟩ := Option.map_eq_some_iff.mp hlast
    obtain ⟨init, rfl⟩ := List.getLast?_eq_some_iff.mp hi
    obtain ⟨hinit, hirst⟩ := List.forall_mem_append.mp hrst
    obtain ⟨t, hrun, hscan, hnone, hvalid, hsync, hscanAcc, hbyte⟩ :=
      runInputs_delivers hrx hinit (hirst i (List.mem_singleton_self i)) hmode htick (by omega)
    refine ⟨t, hrun, hscan, hnone, hvalid, hsync, hscanAcc, fun k h1 h8 => ?_⟩
    rw [hbyte]
    exact symbolsOf_getElem?_eq_assembled s height h1 h8

end Sys2Proof.Machine
end

section
/-! The Modulator (spec/43_modulator.md): the rows of its selector, its operations, the requests it takes, the frame it
drives, and the nodes of a link, which step on their own. -/

namespace Sys2Proof

/-! ## The rows of TXSEL -/

/-- Of the rows of one selector, only one covers a value (R80). -/
theorem row_eq_of_covers {f : Format} {w : Nat} (hw : w < 2 ^ formatWidth f) {r r' : Row} (hr : r ∈ opcodeRows)
    (hr' : r' ∈ opcodeRows) (hf : r.format = f) (hf' : r'.format = f) (hc : rowCovers r w = true)
    (hc' : rowCovers r' w = true) : r = r' := by
  obtain ⟨a, ha⟩ := List.length_eq_one_iff.mp (one_row_covers f w hw)
  have hmem : ∀ q ∈ opcodeRows, q.format = f → rowCovers q w = true → q = a := fun q hq hqf hqc =>
    List.mem_singleton.mp (ha ▸ List.mem_filter.mpr ⟨hq, decide_eq_true ⟨hqf, hqc⟩⟩)
  exact (hmem r hr hf hc).trans (hmem r' hr' hf' hc').symm

/-- The operations that TXSEL selects from when `tx_data` is `d`; `decodeTxsel_eq_iff` ties them to the decoder. -/
def txselInstrs (d : Byte) : List Instr :=
  [.txReset, .txIdle, .txCapture d, .txArmedWait, .txFirstBit, .txSendWait, .txBit, .txEnd, .txRecover]

theorem decodeTxsel_mem_txselInstrs (w : BitVec 6) (d : Byte) : decodeTxsel w d ∈ txselInstrs d := by
  unfold decodeTxsel
  split <;> simp [txselInstrs]

/-- With one payload, different operations of the transmitter have different rows. -/
theorem rowOf_injOn_txselInstrs {d : Byte} {i j : Instr} (hi : i ∈ txselInstrs d) (hj : j ∈ txselInstrs d)
    (h : rowOf i = rowOf j) : i = j := by
  have hrows : ((txselInstrs d).map rowOf).Nodup := by
    change ((txselInstrs 0).map rowOf).Nodup
    decide
  exact List.inj_on_of_nodup_map hrows hi hj h

theorem rowOf_format_of_mem_txselInstrs {d : Byte} {i : Instr} (hi : i ∈ txselInstrs d) :
    (rowOf i).format = .txsel := by
  revert i
  simp [txselInstrs, rowOf]

/-- A value of TXSEL selects the operation whose row of the opcode table covers it (R78, R80). -/
theorem decodeTxsel_eq_iff {d : Byte} {i : Instr} (hi : i ∈ txselInstrs d) (w : BitVec 6) :
    decodeTxsel w d = i ↔ rowCovers (rowOf i) w.toNat = true := by
  have hcovers : rowCovers (rowOf (decodeTxsel w d)) w.toNat = true := by
    simpa using (rowOf_decodeTxsel_covers w.toNat d w.isLt).2
  constructor
  · rintro rfl
    exact hcovers
  · intro hrow
    have hdecoded := decodeTxsel_mem_txselInstrs w d
    exact rowOf_injOn_txselInstrs hdecoded hi
      (row_eq_of_covers w.isLt (rowOf_mem_opcodeRows _) (rowOf_mem_opcodeRows _)
        (rowOf_format_of_mem_txselInstrs hdecoded) (rowOf_format_of_mem_txselInstrs hi) hcovers hrow)

end Sys2Proof

namespace Sys2Proof.Machine

/-! ## The operations -/

theorem txBusy_eq_false_iff (s : State) : s.txBusy = false ↔ s.txState = .idle := bne_eq_false_iff_eq

theorem txBusy_eq_true_iff (s : State) : s.txBusy = true ↔ s.txState ≠ .idle := bne_iff_ne

/-- Settles O7: the row does not write `tx_state`. -/
theorem txIdleHoldsTheLineLow : Obligations.TxIdleHoldsTheLineLow :=
  ⟨fun w _ => (decodeTxsel_eq_iff (by simp [txselInstrs]) w).trans (by revert w; decide),
    fun s => ⟨s.setLine LOW, rfl, rfl, (txBusy_eq_false_iff (s.setLine LOW)).mpr⟩⟩

/-- Of all the operations, a capture and the reset alone write the frame register (R31). -/
theorem perform_txFrame (s : State) (i : Instr) :
    (s.perform i).txFrame = s.txFrame ∨ i = .txReset ∨ ∃ d : Byte, i = .txCapture d := by
  cases i with
  | txReset => exact .inr (.inl rfl)
  | txCapture d => exact .inr (.inr ⟨d, rfl⟩)
  | rxScanTick x => left; rw [perform_rxScanTick]; split <;> rfl
  | _ => exact .inl rfl

/-- Settles O8: the row leaves the transmitter armed, and no other operation's row writes the frame but the reset's. -/
theorem txCaptureBuildsTheFrame : Obligations.TxCaptureBuildsTheFrame := by
  refine ⟨fun w d => (decodeTxsel_eq_iff (by simp [txselInstrs]) w).trans ?_,
    fun s d => ⟨s.captureFrame d, rfl, rfl, rfl⟩, fun i s t h => ?_⟩
  · change rowCovers (rowOf (.txCapture 0)) w.toNat = true ↔ _
    revert w
    decide
  · rw [exec_eq_next] at h
    cases h
    exact perform_txFrame s i

/-- Settles O9: the request is not among the row's bits. -/
theorem txArmedWaitChangesNothing : Obligations.TxArmedWaitChangesNothing :=
  ⟨fun w _ => (decodeTxsel_eq_iff (by simp [txselInstrs]) w).trans (by revert w; decide), fun _ => rfl⟩

/-- Settles O10: bit 15 of a frame is bit 7 of the preamble in its upper half. -/
theorem txFirstBitSendsBitFifteen : Obligations.TxFirstBitSendsBitFifteen :=
  ⟨fun w _ => (decodeTxsel_eq_iff (by simp [txselInstrs]) w).trans (by revert w; decide),
    fun s => ⟨s.startSending, rfl, rfl, rfl⟩, fun d => frameOf_getLsbD d 15⟩

/-- Settles O11: neither the request nor `tx_last` is among the row's bits. -/
theorem txSendWaitChangesNothing : Obligations.TxSendWaitChangesNothing :=
  ⟨fun w _ => (decodeTxsel_eq_iff (by simp [txselInstrs]) w).trans (by revert w; decide), fun _ => rfl⟩

/-- Up to 15 the index goes up by one without wrapping (R32, R165). -/
theorem txIndex_add_one_toNat {index : BitVec 5} (h : index.toNat ≤ 15) : (index + 1#5).toNat = index.toNat + 1 := by
  bv_omega

/-- Settles O12: the index has room for one more, and reaches `tx_last`'s 16 from 15 alone. -/
theorem txBitSendsTheNextBit : Obligations.TxBitSendsTheNextBit := by
  refine ⟨fun w _ => (decodeTxsel_eq_iff (by simp [txselInstrs]) w).trans (by revert w; decide), fun s hindex => ?_⟩
  have hnext := txIndex_add_one_toNat hindex
  refine ⟨s.sendBit, rfl, ?_, hnext, ?_⟩
  · rw [← frameBit_of_le _ _ hindex]
    rfl
  · rw [txLast_iff, sendBit_txIndex, hnext]
    bv_omega

/-- Settles O13: the row is TX_BIT's with `tx_last` = 1. -/
theorem txEndReturnsToIdle : Obligations.TxEndReturnsToIdle :=
  ⟨fun w _ => (decodeTxsel_eq_iff (by simp [txselInstrs]) w).trans (by revert w; decide),
    fun s => ⟨s.goIdle, rfl, rfl, rfl⟩⟩

/-- Settles O14: that no run comes to the reserved state is one of the invariants of R40. -/
theorem txRecoverReturnsToIdle : Obligations.TxRecoverReturnsToIdle :=
  ⟨fun w _ => (decodeTxsel_eq_iff (by simp [txselInstrs]) w).trans (by revert w; decide),
    fun s => ⟨s.goIdle, rfl, rfl, rfl⟩, fun _ h => (legal_of_reachable h).txState_not_reserved⟩

/-! ## Requests -/

/-- Settles O31: outside an idle cycle the request is not among the inputs that have an effect, and in one the
transmitter's row is the capture. -/
theorem requestTakenOnlyWhenIdle : Obligations.RequestTakenOnlyWhenIdle := by
  constructor
  · intro s i start data hbusy
    exact onlyEffectiveInputsMatter s i _ rfl fun _ =>
      ⟨rfl, fun _ => rfl, fun _ => rfl, fun hidle => absurd hidle hbusy⟩
  · intro s i htx hidle hrst hstart
    obtain ⟨hstate, hframe, hindex, hline⟩ :=
      sameTransmitter_afterCycle (s := s.drive i) htx (.capture hrst hidle hstart)
    exact ⟨_, step_eq_next_afterCycle _, hstate, hframe, hindex, hline⟩

/-! ## A frame on the line -/

theorem txTicks_append_singleton (ins : List Inputs) (i : Inputs) :
    txTicks (ins ++ [i]) = txTicks ins + if i.txTick then 1 else 0 := by
  cases htick : i.txTick <;> simp [txTicks, htick]

/-- One cycle more after a run. -/
theorem runInputs_append_singleton {init : List Inputs} {s u : State} (h : runInputs init s = .next u) (i : Inputs) :
    runInputs (init ++ [i]) s = .next (u.drive i).afterCycle := by
  rw [runInputs_append_of_next h, runInputs_cons, runInputs_nil]

/-- The transmitter that sends the frame `word`, `k` transmitter ticks after its capture and before the 17th: armed with
the line low, then sending with the `k`-th bit on the line (R161, R163, R165, R169). -/
structure SendingFrame (word : Frame) (k : Nat) (t : State) : Prop where
  includeTx : t.build.paths.includeTx = true
  frame : t.txFrame = word
  index : t.txIndex.toNat = k
  unsent : k = 0 → t.txState = .armed ∧ t.lineOut = LOW
  sent : 1 ≤ k → t.txState = .send ∧ t.lineOut = word.getLsbD (16 - k)

theorem SendingFrame.armed_or_send {word : Frame} {k : Nat} {t : State} (h : SendingFrame word k t) :
    t.txState = .armed ∨ t.txState = .send := by
  rcases Nat.eq_zero_or_pos k with hk | hk
  · exact .inl (h.unsent hk).1
  · exact .inr (h.sent hk).1

theorem SendingFrame.txBusy {word : Frame} {k : Nat} {t : State} (h : SendingFrame word k t) : t.txBusy = true := by
  rw [txBusy_eq_true_iff]
  rcases h.armed_or_send with hstate | hstate <;> simp [hstate]

theorem sendingFrame_congr {word : Frame} {k : Nat} {s t : State} (hb : t.build = s.build) (h : t.sameTransmitter s)
    (hs : SendingFrame word k s) : SendingFrame word k t := by
  obtain ⟨hstate, hframe, hindex, hline⟩ := h
  obtain ⟨h1, h2, h3, h4, h5⟩ := hs
  exact ⟨by rwa [hb], by rwa [hframe], by rwa [hindex], by rwa [hstate, hline], by rwa [hstate, hline]⟩

theorem SendingFrame.drive {word : Frame} {k : Nat} {t : State} (h : SendingFrame word k t) (i : Inputs) :
    SendingFrame word k (t.drive i) :=
  sendingFrame_congr (s := t) rfl ⟨rfl, rfl, rfl, rfl⟩ h

/-- A cycle without a tick, a request in it or not, holds the current bit (R162, R164, R168). -/
theorem SendingFrame.wait {word : Frame} {k : Nat} {t : State} (h : SendingFrame word k t)
    (hrst : t.inputs.rst = false) (htick : t.inputs.txTick = false) : SendingFrame word k t.afterCycle := by
  have hrow : TransmitterCycle t t := by
    rcases h.armed_or_send with hstate | hstate
    · exact .armedWait hrst hstate htick
    · exact .sendWait hrst hstate htick
  exact sendingFrame_congr (afterCycle_build t) (sameTransmitter_afterCycle h.includeTx hrow) h

/-- Each of the first 16 ticks, a request in its cycle or not, puts the next bit on the line (R163, R165, R168). -/
theorem SendingFrame.tick {word : Frame} {k : Nat} {t : State} (h : SendingFrame word k t) (hk : k < 16)
    (hrst : t.inputs.rst = false) (htick : t.inputs.txTick = true) : SendingFrame word (k + 1) t.afterCycle := by
  have hindex := h.index
  rcases Nat.eq_zero_or_pos k with rfl | hpos
  · obtain ⟨hstate, -⟩ := h.unsent rfl
    have hsame := sameTransmitter_afterCycle h.includeTx (.firstBit hrst hstate htick)
    refine sendingFrame_congr (s := t.startSending) (afterCycle_build t) hsame ?_
    exact ⟨h.includeTx, h.frame, rfl, by simp, fun _ => ⟨rfl, by rw [startSending_lineOut, h.frame]⟩⟩
  · obtain ⟨hstate, -⟩ := h.sent hpos
    have hsame := sameTransmitter_afterCycle h.includeTx (.bit hrst hstate htick (hindex.trans_lt hk))
    refine sendingFrame_congr (s := t.sendBit) (afterCycle_build t) hsame ?_
    refine ⟨h.includeTx, h.frame, ?_, by simp, fun _ => ⟨hstate, ?_⟩⟩
    · rw [sendBit_txIndex, txIndex_add_one_toNat (by omega), hindex]
    · rw [sendBit_lineOut, frameBit_of_le _ _ (by omega), h.frame, hindex]
      congr 1
      omega

/-- The 17th tick ends the frame, a request in its cycle or not (R166, R168). -/
theorem SendingFrame.last {word : Frame} {t : State} (h : SendingFrame word 16 t) (hrst : t.inputs.rst = false)
    (htick : t.inputs.txTick = true) : t.afterCycle.sameTransmitter t.goIdle := by
  obtain ⟨hstate, -⟩ := h.sent (by omega)
  exact sameTransmitter_afterCycle h.includeTx (.last hrst hstate htick h.index.ge)

/-- Cycles without a reset and with no more than 16 ticks take a captured frame as many bits on as they hold ticks, by
induction on the cycles, the latest one last. -/
theorem sendingFrame_runInputs {ins : List Inputs} {s : State} {word : Frame} (hs : SendingFrame word 0 s)
    (hrst : ∀ i ∈ ins, i.rst = false) (hfew : txTicks ins ≤ 16) :
    ∃ t : State, runInputs ins s = .next t ∧ SendingFrame word (txTicks ins) t := by
  induction ins using List.reverseRecOn with
  | nil => exact ⟨s, rfl, hs⟩
  | append_singleton init i ih =>
    obtain ⟨hinit, hi⟩ := List.forall_mem_append.mp hrst
    have hirst := hi i (List.mem_singleton_self i)
    rw [txTicks_append_singleton] at hfew ⊢
    obtain ⟨u, hrun, hu⟩ := ih hinit (by omega)
    refine ⟨(u.drive i).afterCycle, runInputs_append_singleton hrun i, ?_⟩
    cases htick : i.txTick with
    | false => exact (hu.drive i).wait hirst htick
    | true =>
      rw [htick, if_pos rfl] at hfew
      exact (hu.drive i).tick hfew hirst htick

/-- Settles O44: a captured frame is under way up to its 17th tick, which ends it. -/
theorem transmitterDrivesTheWholeFrame : Obligations.TransmitterDrivesTheWholeFrame := by
  intro ins s htx hrst hstate hindex hline hfew
  have hs : SendingFrame s.txFrame 0 s := ⟨htx, rfl, by rw [hindex]; rfl, fun _ => ⟨hstate, hline⟩, by simp⟩
  obtain ⟨t, hrun, ht⟩ := sendingFrame_runInputs hs ((noReset_iff ins).mp hrst) hfew
  refine ⟨t, hrun, ht.frame, ht.txBusy, ht.index, ht.unsent, ht.sent, fun i hall hirst htick => ?_⟩
  obtain ⟨hidle, hframe, hzero, hlow⟩ := SendingFrame.last (t := t.drive i) (hall ▸ ht.drive i) hirst htick
  exact ⟨_, runInputs_append_singleton hrun i, hidle, hlow, hzero, hframe.trans ht.frame,
    (txBusy_eq_false_iff _).mpr hidle⟩

/-! ## The nodes of a link -/

/-- The node a node's cycle ends in; `cycle_eq_next_afterCycle` ties it to `Node.cycle`. -/
def Node.afterCycle (inputs : Inputs) (toggled : Bool) (n : Node) : Node :=
  { core := (n.core.drive inputs).afterCycle
    controller :=
      if toggled then (n.controller.observe n.core.rxPorts).toggle else n.controller.observe n.core.rxPorts }

theorem Node.cycle_eq_next_afterCycle (inputs : Inputs) (toggled : Bool) (n : Node) :
    n.cycle inputs toggled = .next (n.afterCycle inputs toggled) := by
  rw [Node.cycle, step_eq_next_afterCycle]
  rfl

/-- The inputs of the receiver numbered `k` in a link's cycle: its reset, the shared tick, and what the channel makes of
the line for it (R190, R203). -/
def receiverInputs (channel : Nat → Level → Nat) (level : Level) (tick : Bool) (resets : Nat → Bool) (k : Nat) :
    Inputs :=
  ⟨resets k, tick, channel k level, false, false, 0⟩

/-- The receivers' half of a link's cycle is each receiver's own cycle, by its number. -/
theorem receiversCycle_eq_next (channel : Nat → Level → Nat) (level : Level) (tick : Bool)
    (resets toggles : Nat → Bool) (first : Nat) (ns : List Node) :
    receiversCycle channel level tick resets toggles first ns = .next (ns.mapIdx fun j n =>
      n.afterCycle (receiverInputs channel level tick resets (first + j)) (toggles (first + j))) := by
  induction ns generalizing first with
  | nil => rfl
  | cons n rest ih =>
    rw [receiversCycle, Node.cycle_eq_next_afterCycle, ih, List.mapIdx_cons]
    simp only [Nat.add_assoc, Nat.add_comm 1, Nat.add_zero]
    rfl

/-- Settles O52: every end of the link has a next state, which the others have no part in. -/
theorem linkNodesStepOnTheirOwn : Obligations.LinkNodesStepOnTheirOwn := by
  intro channel tick request reset resets toggles l
  refine ⟨⟨_, l.receivers.mapIdx fun j n =>
      n.afterCycle (receiverInputs channel l.transmitter.lineOut tick resets j) (toggles j)⟩,
    ?_, step_eq_next_afterCycle _, List.length_mapIdx, fun k n hn => ?_⟩
  · rw [Link.cycle, step_eq_next_afterCycle, receiversCycle_eq_next]
    simp only [Nat.zero_add]
    rfl
  · exact ⟨_, by rw [List.getElem?_mapIdx, hn]; rfl, Node.cycle_eq_next_afterCycle _ _ n⟩

end Sys2Proof.Machine
end

section
/-! The collaborators around the core (spec/45_external_interfaces.md): the host's digits, the gate, the toggle and the
node's controller, and the loopback of one frame behind a reset. -/

namespace Sys2Proof.Machine

/-! ## One frame after a reset -/

/-- A reset of both ends leaves a loopback that can take a request, whatever its idle line reads as (R193, R243). -/
theorem readyLoopback_resetOf {b : Build} {low high : Nat} (hpaths : b.paths = .both)
    (hchannel : idealChannel b low high = true) : ReadyLoopback low high (State.resetOf b) :=
  ⟨hpaths, hchannel, rfl, rfl, (shift8_zero_safe _).1, (shift8_zero_safe _).2⟩

theorem noRequest_replicate_tick (n : Nat) : NoRequest (List.replicate n .tick) := fun _ hmem =>
  nomatch List.eq_of_mem_replicate hmem

/-- With a tick in every cycle after the request, the 17th of them shows `rx_valid` and the payload (R141, R169). -/
theorem ReadyLoopback.delivers_at_tick_seventeen {low high : Nat} {s : State} (h : ReadyLoopback low high s)
    (payload : Byte) :
    (loopbackTrace low high (.request payload :: List.replicate 17 .tick) s)[17]?.map
      (fun t => (t.rxValid, t.rxByte)) = some (true, payload) := by
  obtain ⟨hstart, -⟩ := h.request payload
  have hsixteen := hstart.foldl (noRequest_replicate_tick 16)
  rw [List.count_replicate_self] at hsixteen
  obtain ⟨hend, -, hvalid⟩ := hsixteen.tick
  rw [getElem?_loopbackTrace, List.getElem?_cons_succ, List.getElem?_replicate_of_lt (by omega), List.take_succ_cons,
    List.take_replicate, Nat.min_eq_left (show 16 ≤ 17 by omega), List.foldl_cons, Option.map_some, Option.map_some,
    hvalid.mpr rfl, hend.rxByte_eq (Nat.le_refl _)]

/-- Settles O47: a reset loopback is ready, and the request with its seventeen ticks is one whole frame. -/
theorem loopbackRoundTripAfterReset : Obligations.LoopbackRoundTripAfterReset := by
  intro b low high c _ hpaths hchannel
  have hready := readyLoopback_resetOf hpaths hchannel
  have hframe : WholeFrame (c, List.replicate 17 .tick) :=
    ⟨List.count_replicate_self.ge, noRequest_replicate_tick 17⟩
  obtain ⟨hsync, hvalid, -⟩ := hready.wholeFrame hframe
  refine ⟨length_loopbackTrace .., hsync, ?_, hready.delivers_at_tick_seventeen c⟩
  exact (List.length_map _).symm.trans (congrArg List.length hvalid)

/-! ## The node's controller -/

@[simp] theorem toggle_lastDecoded (c : Controller) : c.toggle.lastDecoded = c.lastDecoded := rfl

/-- What a controller makes of a receiver's ports: it stores the byte under `rx_valid` and else keeps what it has
(R196). -/
theorem observe_rxPorts {s : State} (hrx : s.build.paths.includeRx = true) (c : Controller) :
    c.observe s.rxPorts = { c with lastDecoded := if s.rxValid then s.rxByte else c.lastDecoded } := by
  rw [rxPorts_of_includeRx hrx, Controller.observe]
  cases s.rxValid <;> rfl

/-- Settles O51: a toggle acts on what the controller has stored, and neither of the two reaches the core. -/
theorem controllerFollowsTheCore : Obligations.ControllerFollowsTheCore := by
  intro n i toggled hrx
  refine ⟨_, step_eq_next_afterCycle _, _, Node.cycle_eq_next_afterCycle i toggled n, rfl, ?_⟩
  rw [Node.afterCycle, observe_rxPorts hrx]
  cases toggled with
  | false => exact ⟨rfl, rfl⟩
  | true => exact ⟨toggle_lastDecoded _, rfl⟩

/-! ## The host's digits -/

theorem channelOfChar_of_digit {code : Nat} (h : 0x30 ≤ code ∧ code ≤ 0x39) :
    channelOfChar code = some (BitVec.ofNat 8 (code - 0x30)) := if_pos h

theorem channelOfChar_of_not_digit {code : Nat} (h : ¬ (0x30 ≤ code ∧ code ≤ 0x39)) : channelOfChar code = none :=
  if_neg h

/-- Settles O48: a digit's code less `0x30` fits the payload, and a character without a channel leaves the inputs. -/
theorem digitsMapToChannels : Obligations.DigitsMapToChannels := by
  intro code i
  refine ⟨fun hdigit => ?_, fun hother => ?_⟩
  · have hchannel := channelOfChar_of_digit hdigit
    have hvalue : (BitVec.ofNat 8 (code - 0x30)).toNat = code - 0x30 := Nat.mod_eq_of_lt (by omega)
    refine ⟨_, hvalue, by omega, hchannel, ?_⟩
    rw [hostInputs, hchannel]
    rfl
  · have hnone := channelOfChar_of_not_digit hother
    refine ⟨hnone, ?_⟩
    rw [hostInputs, hnone]

/-! ## The gate and the toggle -/

/-- Settles O49: as a byte, 0 is the value 0. -/
theorem gateOpensOnMatchOrZero : Obligations.GateOpensOnMatchOrZero := by
  intro c
  have hzero : c.lastDecoded = 0 ↔ c.lastDecoded.toNat = 0 := BitVec.toNat_eq
  rw [Controller.gate, gateOf, ← hzero]
  split
  next hopen => exact iff_of_true rfl hopen
  next hclosed => exact iff_of_false nofun hclosed

/-- Adding 1 and wrapping 9 to 1 is a step round the nine channels. -/
theorem toggle_eq_mod {c : Controller} (hhigh : c.tuned ≤ 9) : c.toggle = { c with tuned := c.tuned % 9 + 1 } := by
  have hmod : (if c.tuned = 9 then 1 else c.tuned + 1) = c.tuned % 9 + 1 := by
    split <;> omega
  rw [Controller.toggle, hmod]

/-- Toggles count the Tuned Channel on round the nine channels (R198, R199). -/
theorem toggle_iterate {c : Controller} (hlow : 1 ≤ c.tuned) (hhigh : c.tuned ≤ 9) (n : Nat) :
    Controller.toggle^[n] c = { c with tuned := (c.tuned - 1 + n) % 9 + 1 } := by
  induction n with
  | zero =>
    have hsame : (c.tuned - 1 + 0) % 9 + 1 = c.tuned := by omega
    rw [hsame]
    rfl
  | succ n ih =>
    have hnext : ((c.tuned - 1 + n) % 9 + 1) % 9 + 1 = (c.tuned - 1 + (n + 1)) % 9 + 1 := by omega
    have hhigh : (c.tuned - 1 + n) % 9 + 1 ≤ 9 := by omega
    rw [Function.iterate_succ_apply', ih, toggle_eq_mod hhigh, hnext]

/-- Settles O50: the nine channels are the period of the toggle. -/
theorem toggleCyclesTheNineChannels : Obligations.ToggleCyclesTheNineChannels := by
  intro c hlow hhigh
  have htuned : c.toggle.tuned = c.tuned % 9 + 1 := by rw [toggle_eq_mod hhigh]
  refine ⟨toggle_lastDecoded c, by omega, by omega, fun _ => by omega, fun _ => by omega, ?_, rfl⟩
  have hperiod : (c.tuned - 1 + 9) % 9 + 1 = c.tuned := by omega
  rw [toggle_iterate hlow hhigh, hperiod]

end Sys2Proof.Machine
end

section
/-! That every operation and every cycle completes (spec/60_exceptions.md R210), and what a cycle then leaves where an
instance lacks a path (spec/00_scope.md R4). -/

namespace Sys2Proof.Machine

/-- A core built without the receiver makes no decision, so the record stays as the cycle's start empties it (R4,
R103). -/
theorem decided_of_step_absent {s t : State} (h : step s = .next t) (hrx : s.build.paths.includeRx = false) :
    t.decided = none := by
  have hnone : s.rxOperations.foldl State.perform s.beginCycle = s.beginCycle := by
    rw [foldl_perform_rxOperations, if_neg (by simp [hrx])]
  rw [step_eq_next_paths, hnone] at h
  cases h
  exact beginCycle_decided s

/-- Settles O23: `State.perform` and `State.afterCycle` are the next states, and an absent path's operations are not
among a cycle's. -/
theorem everyCycleCompletes : Obligations.EveryCycleCompletes := by
  refine ⟨fun i s => ⟨s.perform i, exec_eq_next i s⟩, fun s => ?_⟩
  have hstep : step s = .next s.afterCycle := step_eq_next_afterCycle s
  obtain ⟨hstimuli, hcycle⟩ := stimuli_cycle_of_step hstep
  exact ⟨s.afterCycle, hstep, build_of_step hstep, hstimuli, hcycle,
    fun hrx => ⟨sameReceiver_of_step_absent hstep hrx, decided_of_step_absent hstep hrx⟩,
    fun htx => sameTransmitter_of_step_absent hstep htx⟩

end Sys2Proof.Machine
end

section
/-! The two resets (spec/70_reset_and_hazards.md): the rows that select them, the values they write, and the cycle with
`rst` = 1. -/

namespace Sys2Proof.Machine

/-! ## The reset operations -/

/-- The row of R77 that RX_RESET is: every value with the bit of `rst`. -/
theorem decodeRxsel_eq_rxReset_iff (w : BitVec 4) (x : Nat) : decodeRxsel w x = .rxReset ↔ w.getLsbD 3 = true := by
  unfold decodeRxsel
  split
  case h_1 h3 => exact iff_of_true rfl h3
  case h_2 h3 _ | h_3 h3 _ _ | h_4 h3 _ _ _ | h_5 h3 _ _ _ => rw [h3]; simp

/-- Settles O1: the nine values are the whole of `State.resetRx`. -/
theorem rxResetWritesResetValues : Obligations.RxResetWritesResetValues :=
  ⟨decodeRxsel_eq_rxReset_iff, exec_eq_next .rxReset⟩

/-- Settles O2: the four values are the whole of `State.resetTx`, and `tx_busy` is read from the first. -/
theorem txResetWritesResetValues : Obligations.TxResetWritesResetValues :=
  ⟨fun w _ => (decodeTxsel_eq_iff (by simp [txselInstrs]) w).trans (by revert w; decide),
    fun s => ⟨s.resetTx, exec_eq_next .txReset s, rfl, (txBusy_eq_false_iff s.resetTx).mpr (resetTx_txState s)⟩⟩

/-! ## A cycle with `rst` = 1 -/

/-- What the receiver held before RX_RESET is in none of the values after it (R20, R230). -/
theorem sameReceiver_resetRx_resetOf (s : State) : s.resetRx.sameReceiver (State.resetOf s.build) :=
  ⟨rfl, rfl, rfl, rfl, rfl, rfl, rfl, rfl, rfl⟩

/-- What the transmitter held before TX_RESET is in none of the values after it (R20, R231). -/
theorem sameTransmitter_resetTx_resetOf (s : State) : s.resetTx.sameTransmitter (State.resetOf s.build) :=
  ⟨rfl, rfl, rfl, rfl⟩

theorem sameReceiver_afterCycle_of_rst {s : State} (hrst : s.inputs.rst = true)
    (hrx : s.build.paths.includeRx = true) : s.afterCycle.sameReceiver (State.resetOf s.build) :=
  sameReceiver_trans (sameReceiver_afterCycle hrx (.reset hrst)) (sameReceiver_resetRx_resetOf s)

theorem sameTransmitter_afterCycle_of_rst {s : State} (hrst : s.inputs.rst = true)
    (htx : s.build.paths.includeTx = true) : s.afterCycle.sameTransmitter (State.resetOf s.build) :=
  sameTransmitter_trans (sameTransmitter_afterCycle htx (.reset hrst)) (sameTransmitter_resetTx_resetOf s)

/-- The receiver's ports of a core whose receiver is at its reset values (R74, R230). -/
theorem rxPorts_of_sameReceiver_resetOf {t : State} {b : Build} (hrx : t.build.paths.includeRx = true)
    (h : t.sameReceiver (State.resetOf b)) : t.rxPorts = some ⟨false, false, false, false, 0x00#8⟩ := by
  obtain ⟨-, hsymbol, -, hmode, -, -, hbyte, hsync, hvalid⟩ := h
  rw [rxPorts_of_includeRx hrx, hsymbol, hmode, hbyte, hsync, hvalid]
  rfl

/-- The transmitter's ports of a core whose transmitter is at its reset values (R38, R74, R231). -/
theorem txPorts_of_sameTransmitter_resetOf {t : State} {b : Build} (htx : t.build.paths.includeTx = true)
    (h : t.sameTransmitter (State.resetOf b)) : t.txPorts = some ⟨LOW, false⟩ := by
  obtain ⟨hstate, -, -, hline⟩ := h
  rw [txPorts_of_includeTx htx, hstate, hline]
  rfl

/-- Settles O30: the bit of `rst` alone selects each path's reset row, and no port reads an input. -/
theorem resetOverridesEveryInput : Obligations.ResetOverridesEveryInput := by
  intro s i hrst
  have hbuild : (s.drive i).afterCycle.build = s.build := afterCycle_build (s.drive i)
  have hreceiver : s.build.paths.includeRx = true → (s.drive i).afterCycle.sameReceiver (State.resetOf s.build) :=
    sameReceiver_afterCycle_of_rst (s := s.drive i) hrst
  have htransmitter : s.build.paths.includeTx = true →
      (s.drive i).afterCycle.sameTransmitter (State.resetOf s.build) :=
    sameTransmitter_afterCycle_of_rst (s := s.drive i) hrst
  refine ⟨_, step_eq_next_afterCycle _, hreceiver, htransmitter, drive_rxPorts s i, drive_txPorts s i, ?_, ?_⟩
  · cases hrx : s.build.paths.includeRx with
    | true => exact .inl (rxPorts_of_sameReceiver_resetOf (by rwa [hbuild]) (hreceiver hrx))
    | false => exact .inr rfl
  · cases htx : s.build.paths.includeTx with
    | true => exact .inl (txPorts_of_sameTransmitter_resetOf (by rwa [hbuild]) (htransmitter htx))
    | false => exact .inr rfl

end Sys2Proof.Machine
end
